-- ==== Sys2Proof/Word.lean ====
section
/-! DEFINITION. The word types and index types of the AN-4412: bytes, and the numbers of roster entries,
zones, cells, slots, channels and paths (00_scope, Capacities and Indices). -/

namespace Sys2Proof

/-- One byte of a link frame, an event record or a radio frame (R174). -/
abbrev Byte := BitVec 8

/-- A roster index, 0 to 191. -/
abbrev DevIx := Fin 192

/-- A zone number, 0 to 31. -/
abbrev ZoneIx := Fin 32

/-- A cell number, 0 to 3. -/
abbrev CellIx := Fin 4

/-- A home slot of a cell, 0 to 47 (R1). -/
abbrev Slot := Fin 48

/-- A path: 0 is direct, 1 to 15 are relay numbers. -/
abbrev Path := Fin 16

/-- A radio channel, 0 to 31. -/
abbrev Channel := Fin 32

end Sys2Proof
end

