-- ==== Sys2Proof/Config.lean ====
section
/-! DEFINITION. What the manual leaves to the implementation or does not state: free values without a body.
Nothing in Lean can evaluate them, so a claim holds whatever they are. -/

namespace Sys2Proof

/-- The firmware version number that Read Identity carries, major byte then minor byte. R165 gives its
width and no value. DESIGN CHOICE (log 10): a free value; safe. -/
opaque Config.firmwareVersion : BitVec 16

/-- Whether a response that is produced while its link already holds four is held as a fifth. R151 says
each link holds at most four; R152 says the response of a command is produced when its write ends. The
manual does not say which gives way. DESIGN CHOICE (log 9): a free value; safe. -/
opaque Config.fifthResponseKept : Bool

/-- Whether bank 0's image is the newer of two valid images with equal write numbers. R171 compares numbers that
differ. DESIGN CHOICE (log 23): a free value; safe. -/
opaque Config.equalNumbersZeroNewer : Bool

/-- The standing level of a latched member without a last reading. R102 gives the level for every last reading.
DESIGN CHOICE (log 24): a free value; safe. -/
opaque Config.levelWithoutReading : Nat

/-- The elapsed time of verification kept by a latched smoke member without candidate times. R102 gives it for a
member that has them. DESIGN CHOICE (log 24): a free value; safe. -/
opaque Config.elapsedWithoutTimes : Nat

/-- The bytes in which a bank of the Configuration Store holds the items of an image, over which the image's CRC is
computed (R167). The manual gives the items and the CRC, and no byte layout in the store. DESIGN CHOICE (log 11): a
free value; safe. -/
opaque Config.imageBytes : List Nat → List Byte

end Sys2Proof
end

