-- ==== Sys2Proof/Syntax.lean ====
section
/-! DEFINITION. The commands and events presented to the part: one constructor of `Instr` for each row of
spec/opcode_table.json, and the operand types they carry. -/

namespace Sys2Proof

/-- The three serial links (00_scope, Links). -/
inductive Link where
  | A | B | S
  deriving DecidableEq, Repr

/-- The two panel links, the ones the Event Store delivers to. -/
inductive Panel where
  | A | B
  deriving DecidableEq, Repr

/-- What arrives with every taken command frame besides its code and operands: the link, the level of the
service key input pin at that moment (sampled for Link S, R154; log 5), the tag and the claimed level. -/
structure FrameHead where
  link : Link
  key : Bool
  tag : Byte
  level : Byte
  deriving DecidableEq, Repr

/-- The commands of the command code table (R175). -/
inductive Command where
  | readStatus | readDevice | readZone | readCell | readRoute | readIdentity
  | attach | detach | fetchEvent
  | acknowledgeZone | resetZone | acknowledgeAll | resetAll
  | disableDevice | enableDevice | disableZone | enableZone
  | startTest | endTest | selectProfile | setTime | clearCellStatistics
  | enrolDevice | removeDevice | moveDevice | cancelMove | pinRoute | unpinRoute
  | setZoneParameters | setSiteParameters | setCellChannel | stopCell | startCell
  | clearDisablements | restart
  deriving DecidableEq, Repr

/-- A Received Copy as a transceiver hands it over (R45): frame bytes, integrity verdict, signal level and
arrival tick; and the tick of the interval in progress at which the part takes it (R33). -/
structure Copy where
  bytes : List Byte
  good : Bool
  level : Fin 16
  arrival : Fin 8192
  taken : Fin 8192
  deriving DecidableEq, Repr

/-- The transmission that a Transmit Confirm names: interval and tick (R45), and the superframe the
interval belongs to, so that a confirm taken after its superframe has ended can be told (R28; log 8). -/
structure TxName where
  interval : Fin 12
  tick : Fin 8192
  phase : Fin 8
  cycle : BitVec 16
  deriving DecidableEq, Repr

/-- The steps of the part, one constructor for each row of spec/opcode_table.json. A link command carries
its frame head and the frame's operand bytes (`ops`), which its meaning reads at the widths of R175. A
write end carries the verdict of the store's read-back (R168). -/
inductive Instr where
  | readStatus (h : FrameHead) (ops : List Byte)
  | readDevice (h : FrameHead) (ops : List Byte)
  | readZone (h : FrameHead) (ops : List Byte)
  | readCell (h : FrameHead) (ops : List Byte)
  | readRoute (h : FrameHead) (ops : List Byte)
  | readIdentity (h : FrameHead) (ops : List Byte)
  | attach (h : FrameHead) (ops : List Byte)
  | detach (h : FrameHead) (ops : List Byte)
  | fetchEvent (h : FrameHead) (ops : List Byte)
  | acknowledgeZone (h : FrameHead) (ops : List Byte)
  | resetZone (h : FrameHead) (ops : List Byte)
  | acknowledgeAll (h : FrameHead) (ops : List Byte)
  | resetAll (h : FrameHead) (ops : List Byte)
  | disableDevice (h : FrameHead) (ops : List Byte)
  | enableDevice (h : FrameHead) (ops : List Byte)
  | disableZone (h : FrameHead) (ops : List Byte)
  | enableZone (h : FrameHead) (ops : List Byte)
  | startTest (h : FrameHead) (ops : List Byte)
  | endTest (h : FrameHead) (ops : List Byte)
  | selectProfile (h : FrameHead) (ops : List Byte)
  | setTime (h : FrameHead) (ops : List Byte)
  | clearCellStatistics (h : FrameHead) (ops : List Byte)
  | enrolDevice (h : FrameHead) (ops : List Byte)
  | enrolDeviceWriteEnd (verified : Bool)
  | removeDevice (h : FrameHead) (ops : List Byte)
  | removeDeviceWriteEnd (verified : Bool)
  | moveDevice (h : FrameHead) (ops : List Byte)
  | cancelMove (h : FrameHead) (ops : List Byte)
  | pinRoute (h : FrameHead) (ops : List Byte)
  | pinRouteWriteEnd (verified : Bool)
  | unpinRoute (h : FrameHead) (ops : List Byte)
  | unpinRouteWriteEnd (verified : Bool)
  | setZoneParameters (h : FrameHead) (ops : List Byte)
  | setZoneParametersWriteEnd (verified : Bool)
  | setSiteParameters (h : FrameHead) (ops : List Byte)
  | setSiteParametersWriteEnd (verified : Bool)
  | setCellChannel (h : FrameHead) (ops : List Byte)
  | setCellChannelWriteEnd (verified : Bool)
  | stopCell (h : FrameHead) (ops : List Byte)
  | startCell (h : FrameHead) (ops : List Byte)
  | clearDisablements (h : FrameHead) (ops : List Byte)
  | restart (h : FrameHead) (ops : List Byte)
  | unknownCommandFrame (h : FrameHead) (code : Byte) (ops : List Byte)
  | busyFrame (h : FrameHead) (code : Byte) (ops : List Byte)
  | frameCrcDiscard (l : Link)
  | frameGapTimeout (l : Link)
  | linkSilence (p : Panel)
  | receivedCopy (c : CellIx) (x : Copy)
  | downlinkAssembly (c : CellIx)
  | transmitConfirm (c : CellIx) (t : TxName)
  | intervalEnd
  | superframeBoundary
  | cycleBoundary
  | enrolmentDeadline (i : DevIx)
  | corroborationLapse (z : ZoneIx)
  | profileExpiry (z : ZoneIx)
  | testExpiry (z : ZoneIx)
  | storeWriteStart
  | rosterWriteEnd (verified : Bool)
  | powerLossOrReset
  | startUp
  | restartStartUp
  | probeAnswer (c : CellIx)
  | probeTimeout (key : Bool)
  | frameByteReceived (l : Link) (key : Bool) (b : Byte)
  | responseWhollySent (l : Link)
  deriving DecidableEq, Repr

end Sys2Proof
end

