-- ==== Sys2Proof/Decode.lean ====
section
/-! DEFINITION. Decoding of table words. No row of spec/opcode_table.json gives bits, so no word spells a command:
frames are recognised by the frame receiver (Machine/Frames.lean) and radio frames by test 1 of copy acceptance
(Machine/Formats.lean). -/

namespace Sys2Proof

/-- The command that a word of nbits bits spells by the table's bits: none for every word. -/
def decodeTableWord (_nbits _w : Nat) : Option Instr := none

end Sys2Proof
end

