-- ==== Sys2Proof/Machine/State.lean ====
section
/-! DEFINITION. The state of the AN-4412 as plain data, its faults and refusals, and the state after reset.
Each structure cites the rule whose table it follows; INVENTORY.md lists every field with its reset value. -/

namespace Sys2Proof.Machine

/-! ## Device records (R2) -/

/-- Device kinds (R2). -/
inductive Kind where
  | smoke | heat | callPoint | repeater
  deriving DecidableEq, Repr

/-- Life-cycle states of a roster entry (section 1.3). -/
inductive Life where
  | vacant | enrolling | calibrating | supervised | missing
  deriving DecidableEq, Repr

/-- Device conditions (R66). -/
inductive Cond where
  | quiet | preAlarm | fireLatched
  deriving DecidableEq, Repr

/-- The members of a fault set (R2). -/
inductive Cause where
  | sensorFault | headRemoved | selfTestFailed | contaminated | lowBattery | unsupervised
  deriving DecidableEq, Repr

/-- A set of fault causes (R2). -/
structure FaultSet where
  sensorFault : Bool := false
  headRemoved : Bool := false
  selfTestFailed : Bool := false
  contaminated : Bool := false
  lowBattery : Bool := false
  unsupervised : Bool := false
  deriving DecidableEq, Repr

/-- A set of links: the disablement set of a device or a zone (06, section 6.5). -/
structure LinkSet where
  a : Bool := false
  b : Bool := false
  s : Bool := false
  deriving DecidableEq, Repr

/-- Verification state of a smoke device (R66, R81). -/
structure Verification where
  count : Nat := 0
  first : Option Nat := none
  last : Option Nat := none
  deriving DecidableEq, Repr

/-- Smoke state (R66, R71, R74): the baseline is in sixteenths of a reading unit. -/
structure SmokeState where
  baseline : Option Nat := none
  calCount : Nat := 0
  calSum : Nat := 0
  driftSum : Int := 0
  driftCount : Nat := 0
  deriving DecidableEq, Repr

/-- Heat state (R66, R83): reference temperature with its time, and the last rate. -/
structure HeatState where
  reference : Option (Int × Nat) := none
  rate : Option Int := none
  deriving DecidableEq, Repr

/-- The stage of a move (section 1.7). -/
inductive Stage where
  | pending | announced
  deriving DecidableEq, Repr

/-- A move of an entry to a target index (R17). -/
structure Move where
  target : DevIx
  stage : Stage
  deriving DecidableEq, Repr

/-- A route entry (R54). -/
structure Route where
  path : Path
  quality : Nat
  age : Nat
  delivered : Bool
  pinned : Bool
  deriving DecidableEq, Repr

/-- The two route entry positions of a device (R54). -/
structure RoutePair where
  first : Option Route := none
  second : Option Route := none
  deriving DecidableEq, Repr

/-- A device record (R2) with its two route positions (R54). A Vacant record holds the values below in
every field but `outstanding`; which fields a record has is decided by its state and kind, and readers
report the others absent (log 17). `relay` is 0 for an entry that is not a Repeater. -/
structure Device where
  life : Life := .vacant
  outstanding : Bool := false
  identity : BitVec 24 := 0
  kind : Kind := .smoke
  zone : ZoneIx := 0
  relay : Path := 0
  granted : Bool := false
  deadline : Option Nat := none
  lastSeq : Option (Fin 16) := none
  lastReading : Option (Byte × Nat) := none
  battery : Option (Fin 8) := none
  faults : FaultSet := {}
  missCount : Nat := 0
  heard : Bool := false
  disabled : LinkSet := {}
  cond : Cond := .quiet
  verif : Verification := {}
  smoke : SmokeState := {}
  heat : HeatState := {}
  lastPreAlarm : Option Nat := none
  offset : Option Int := none
  move : Option Move := none
  shadow : Option DevIx := none
  routes : RoutePair := {}
  deriving DecidableEq, Repr

/-! ## Zones (R91, R92) -/

/-- Zone conditions (R91). -/
inductive ZoneCond where
  | quiet | preAlarm | alerted | fire
  deriving DecidableEq, Repr

/-- Zone profiles (R110). -/
inductive Profile where
  | normal | service
  deriving DecidableEq, Repr

/-- Zone modes (R92). -/
inductive Mode where
  | single | corroborated
  deriving DecidableEq, Repr

/-- The parameter set of a zone with the defaults of R92. Windows are in seconds. -/
structure ZoneParams where
  mode : Mode := .single
  corrWindow : Nat := 120
  normalTpre : Nat := 10
  normalTfire : Nat := 18
  serviceTpre : Nat := 20
  serviceTfire : Nat := 32
  verifications : Nat := 2
  verifWindow : Nat := 30
  nominal : Nat := 20
  compLimit : Nat := 60
  tfix : Nat := 116
  preOffset : Nat := 20
  rrise : Nat := 16
  deriving DecidableEq, Repr

/-- An acknowledgement of a zone: the generation and the link (R106). -/
structure Ack where
  generation : BitVec 16
  link : Link
  deriving DecidableEq, Repr

/-- A test of a zone: its owner link and its expiry (R111). -/
structure ZoneTest where
  owner : Link
  expiry : Nat
  deriving DecidableEq, Repr

/-- A zone record (R91) with its parameter set (R92). -/
structure Zone where
  cond : ZoneCond := .quiet
  generation : BitVec 16 := 0
  ack : Option Ack := none
  firstLatch : Option Nat := none
  profile : Profile := .normal
  profileExpiry : Option Nat := none
  test : Option ZoneTest := none
  disabled : LinkSet := {}
  params : ZoneParams := {}
  deriving DecidableEq, Repr

/-- The site parameter set with its defaults (R159, 3.1, 4.1, R143). The hold-off is in seconds. -/
structure SiteParams where
  missLimit : Nat := 4
  routeAge : Nat := 16
  holdOff : Nat := 300
  wFault : Nat := 4
  wWarning : Nat := 2
  wStatus : Nat := 1
  deriving DecidableEq, Repr

/-! ## Radio cells (R26) -/

/-- Cell states (R26). -/
inductive CellState where
  | absent | running | stopping | off | failed
  deriving DecidableEq, Repr

/-- Values of a cycle slot record entry (section 2.5). -/
inductive SlotEntry where
  | unowned | expecting | heard | missed
  deriving DecidableEq, Repr

/-- What became of an examined copy (R26, R34, R37). -/
inductive CopyOutcome where
  | accepted | windowFailure | foreignIdentity | discarded
  deriving DecidableEq, Repr

/-- An entry of the interval work list (R26, R33). -/
structure Examined where
  path : Path
  identity : BitVec 24
  outcome : CopyOutcome
  deriving DecidableEq, Repr

/-- The kind of slot a frame was matched in (R35). -/
inductive SlotKind where
  | home | shadow
  deriving DecidableEq, Repr

/-- An entry of the interval's frame list (R36): the roster entry, its identity, the frame's sequence
number and the kind of slot that matched. -/
structure FrameEntry where
  index : DevIx
  identity : BitVec 24
  seq : Fin 16
  via : SlotKind
  deriving DecidableEq, Repr

/-- The downlink claim of an enrolment interval (R37): the first accepted Enrol copy's identity, device kind
code and path, and the entry the Roster decided to grant or re-grant, if any. -/
structure Claim where
  identity : BitVec 24
  kind : Byte
  path : Path
  grant : Option DevIx
  deriving DecidableEq, Repr

/-- The four statistics counters of a cell (R44). -/
structure CellStats where
  integrity : Nat := 0
  window : Nat := 0
  foreignId : Nat := 0
  unmatched : Nat := 0
  deriving DecidableEq, Repr

/-- A transmit request (R45). -/
structure TxRequest where
  interval : Fin 12
  tick : Fin 8192
  channel : Channel
  bytes : List Byte
  deriving DecidableEq, Repr

/-- A cell record (R26). `beaconRequested`, `deaf` and `assembled` hold what R28, R28 and R38 imply; `lastTx`
is the request most recently handed to the transceiver (log 29). -/
structure Cell where
  state : CellState := .absent
  startPending : Bool := false
  channel : Channel
  beaconConfirmed : Bool := false
  beaconRequested : Bool := false
  unconfirmed : Nat := 0
  slots : Vector SlotEntry 48 := Vector.replicate 48 .unowned
  work : List Examined := []
  frames : List FrameEntry := []
  claim : Option Claim := none
  deaf : Bool := false
  assembled : Bool := false
  stats : CellStats := {}
  lastTx : Option TxRequest := none
  deriving DecidableEq, Repr

/-! ## Events (R131, R133) -/

/-- Event classes (R131). -/
inductive EventClass where
  | status | warning | fault | fire
  deriving DecidableEq, Repr

/-- Why a test ended (R133, section 10.3): its expiry, a link's End Test, or Disable Zone. -/
inductive TestEnd where
  | expiry | link (l : Link) | disablement
  deriving DecidableEq, Repr

/-- Why a device was restored (R133): from Missing, or a fault cause removed. -/
inductive Restored where
  | missing | cause (c : Cause)
  deriving DecidableEq, Repr

/-- Why a panel link was detached (R147). -/
inductive DetachCause where
  | command | silence
  deriving DecidableEq, Repr

/-- The event kinds of R133, each with its subject and the values of its detail. -/
inductive EventBody where
  | deviceFire (i : DevIx) (z : ZoneIx) (generation : BitVec 16) (level elapsed : Nat)
  | zoneCondition (z : ZoneIx) (cond : ZoneCond) (generation : BitVec 16)
  | deviceMissing (i : DevIx) (relayLost : Bool)
  | deviceFault (i : DevIx) (cause : Cause)
  | preAlarm (i : DevIx) (level : Nat)
  | corroborationLapsed (z : ZoneIx) (member : DevIx) (generation : BitVec 16)
  | enrolMismatch (i : DevIx) (received : Byte)
  | enrolmentTimedOut (i : DevIx)
  | deviceRestored (i : DevIx) (cause : Restored)
  | deviceEnrolled (i : DevIx) (cell : CellIx)
  | deviceRemoved (i : DevIx)
  | moveDone (i : DevIx) (old : DevIx)
  | testActivation (i : DevIx) (z : ZoneIx) (level : Nat)
  | disabledCondition (i : DevIx) (z : ZoneIx) (level : Nat)
  | zoneAcknowledged (z : ZoneIx) (generation : BitVec 16) (link : Link)
  | zoneReset (z : ZoneIx) (generation : BitVec 16) (link : Link)
  | deviceDisabled (i : DevIx) (link : Link)
  | zoneDisabled (z : ZoneIx) (link : Link)
  | deviceEnabled (i : DevIx) (link : Link)
  | zoneEnabled (z : ZoneIx) (link : Link)
  | testStarted (z : ZoneIx) (owner : Link) (minutes : Nat)
  | testEnded (z : ZoneIx) (owner : Link) (cause : TestEnd)
  | profileChanged (z : ZoneIx) (profile : Profile) (link : Option Link) (minutes : Nat)
  | linkDetached (p : Panel) (cause : DetachCause)
  deriving DecidableEq, Repr

/-- A set of panel links: the pending set of an event (R131). -/
structure PanelSet where
  a : Bool := false
  b : Bool := false
  deriving DecidableEq, Repr

/-- An event record (R131). Its class, kind, subject and detail are given by `body` (R133). -/
structure Event where
  seq : BitVec 16
  siteTime : BitVec 32
  body : EventBody
  pending : PanelSet
  deriving DecidableEq, Repr

/-! ## Links (R153) and delivery state (section 7.4) -/

/-- The frame receiver of a link (R149) with the bytes taken so far: the length and the bytes from the tag on,
and in Check the first CRC byte once it has come. -/
inductive Receiver where
  | hunting
  | length
  | body (n : Nat) (got : List Byte)
  | check (n : Nat) (got : List Byte) (high : Option Byte)
  deriving DecidableEq, Repr

/-- Result codes of a response (R175). -/
inductive Result where
  | done | noChange | busy
  | badFrame | unknownCommand | levelNotGranted | levelTooLow
  | badTarget | cellAbsent | vacantTarget | notAttached
  | wrongState | slotTaken | zoneDisabled | duplicateIdentity | badValue
  | stale | notInAlarm | notAcknowledged
  | storeWriteFailed
  deriving DecidableEq, Repr

/-- What a response says besides its tag: result code, value and data (R151). -/
structure Reply where
  result : Result
  value : Nat := 0
  data : List Byte := []
  deriving DecidableEq, Repr

/-- A response that has been produced and is not yet wholly sent (R151). -/
structure Response where
  tag : Byte
  reply : Reply
  deriving DecidableEq, Repr

/-- The state each link keeps (R153): receiver, execution state (absent is Ready) and held responses. -/
structure Port where
  rx : Receiver := .hunting
  executing : Option (Command × Byte) := none
  responses : List Response := []
  deriving DecidableEq, Repr

/-- The class credits of a panel link (R141). -/
structure Credits where
  fault : Nat := 0
  warning : Nat := 0
  status : Nat := 0
  deriving DecidableEq, Repr

/-- The lost flags of a panel link (R137). -/
structure LostFlags where
  fire : Bool := false
  fault : Bool := false
  warning : Bool := false
  status : Bool := false
  deriving DecidableEq, Repr

/-- The delivery state of a panel link (section 7.4, R153). -/
structure Delivery where
  attached : Bool := false
  lastFrame : Nat := 0
  credits : Credits := {}
  lost : LostFlags := {}
  deriving DecidableEq, Repr

/-! ## Configuration Store (R167) -/

/-- A stored roster entry (R167): pinned routes by position. -/
structure StoredEntry where
  identity : BitVec 24
  kind : Kind
  zone : ZoneIx
  relay : Path
  granted : Bool
  pinFirst : Option Path := none
  pinSecond : Option Path := none
  deriving DecidableEq, Repr

/-- The items of an image but its CRC (R167), which a bank holds beside them (log 11). -/
structure Image where
  roster : Vector (Option StoredEntry) 192
  zones : Vector ZoneParams 32
  channels : Vector Channel 4
  site : SiteParams
  number : BitVec 16
  deriving DecidableEq, Repr

/-- A bank of the store: erased, an image with the CRC stored beside it, or the incomplete image of a write that is
in progress or was abandoned part-way (R167, R170; log 11). -/
inductive Bank where
  | erased
  | holds (image : Image) (crc : BitVec 16)
  | spoiled
  deriving DecidableEq, Repr

/-- The two banks (R167). -/
inductive BankNo where
  | zero | one
  deriving DecidableEq, Repr

/-- What a command write changes (R168). The identity says which record the command was about when it was
taken, so that the record is found again if its move is transferred meanwhile (R14, R59; log 27); a removal
also carries a Repeater's relay number, whose pinned routes the write erases (R14). -/
inductive CommandWrite where
  | enrol (i : DevIx) (e : StoredEntry)
  | remove (i : DevIx) (identity : BitVec 24) (relay : Option Path)
  | pin (i : DevIx) (identity : BitVec 24) (path : Path)
  | unpin (i : DevIx) (identity : BitVec 24) (path : Path)
  | zone (z : ZoneIx) (params : ZoneParams)
  | site (params : SiteParams)
  | channel (c : CellIx) (ch : Channel)
  deriving DecidableEq, Repr

/-- A write request (section 9.2): a command write, or a roster write with its set of indices. -/
inductive WriteJob where
  | command (w : CommandWrite)
  | roster (ixs : List DevIx)
  deriving DecidableEq, Repr

/-- The write in progress (R168): its request, the composed image and the indices whose stored entries the
image replaces. -/
structure ActiveWrite where
  job : WriteJob
  image : Image
  replaced : List DevIx
  deriving DecidableEq, Repr

/-- The Configuration Store (R167 to R169). -/
structure Store where
  bank0 : Bank := .erased
  bank1 : Bank := .erased
  current : Option BankNo := none
  invalid : Bool := true
  active : Option ActiveWrite := none
  waiting : List WriteJob := []
  deriving DecidableEq, Repr

/-! ## The part -/

/-- Whether the part is held (R170), waits for probe answers (R172) or runs. -/
inductive Phase where
  | held
  | probing (answered : Vector Bool 4)
  | running
  deriving DecidableEq, Repr

/-- A restart (R166, R170): none, answered and waiting for its boundary, or at its boundary (log 21). -/
inductive Restart where
  | idle | pending | due
  deriving DecidableEq, Repr

/-- The Radio Timebase (R23). The two marks say that a boundary has been reached and its handling has not
been taken yet (log 3). -/
structure Timebase where
  tick : Fin 8192 := 0
  interval : Fin 12 := 0
  phase : Fin 8 := 0
  cycle : BitVec 16 := 0
  superframeDue : Bool := false
  cycleDue : Bool := false
  deriving DecidableEq, Repr

/-- The default channel of cell c is 3 + 7c (R26). -/
def defaultChannels : Vector Channel 4 := #v[3, 10, 17, 24]

/-- The whole state of the part, and the queue of commands presented to it (`pending`, the model's own). -/
structure State where
  phase : Phase
  restart : Restart
  time : Timebase
  runClock : Nat
  siteTime : BitVec 32
  key : Bool
  roster : Vector Device 192
  zones : Vector Zone 32
  siteCount : BitVec 16
  cells : Vector Cell 4
  site : SiteParams
  events : List Event
  nextSeq : BitVec 16
  portA : Port
  portB : Port
  portS : Port
  panelA : Delivery
  panelB : Delivery
  store : Store
  pending : List Instr
  deriving DecidableEq, Repr

/-- The part raises no fault that stops it: the manual names none, so there is no constructor. -/
inductive Fault where
  deriving DecidableEq, Repr

/-- Reasons to have no meaning for a command. `notModelled` is raised by exec's arms alone, for a row without
a meaning (safe: the machine stops where the part goes on); no arm raises it. -/
inductive Refusal where
  | notModelled (mnemonic : String)
  deriving DecidableEq, Repr

/-- The part right after reset: held (R170), before START_UP is taken. The working state has the start-up
values that the chapters give for the default configuration with no transceiver answered (R26, R91, R153,
R171, R173); both banks are erased. Values the manual does not give: log 4. -/
def State.reset : State where
  phase := .held
  restart := .idle
  time := {}
  runClock := 0
  siteTime := 0
  key := false
  roster := Vector.replicate 192 {}
  zones := Vector.replicate 32 {}
  siteCount := 0
  cells := #v[{ channel := 3 }, { channel := 10 }, { channel := 17 }, { channel := 24 }]
  site := {}
  events := []
  nextSeq := 0
  portA := {}
  portB := {}
  portS := {}
  panelA := {}
  panelB := {}
  store := {}
  pending := []

end Sys2Proof.Machine
end

