-- ==== Sys2Proof/Machine/Flags.lean ====
section
/-! DEFINITION. The sets the part keeps as flags: disablement sets, pending sets, fault sets and lost flags,
with their membership, their changes and their codes (R174). -/

namespace Sys2Proof.Machine

/-! ## Disablement sets -/

/-- Whether link l is a member of the set. -/
def LinkSet.has (x : LinkSet) : Link → Bool
  | .A => x.a
  | .B => x.b
  | .S => x.s

/-- The set with link l added (R120, R121). -/
def LinkSet.add (x : LinkSet) : Link → LinkSet
  | .A => { x with a := true }
  | .B => { x with b := true }
  | .S => { x with s := true }

/-- The set with link l removed (R122, R123). -/
def LinkSet.remove (x : LinkSet) : Link → LinkSet
  | .A => { x with a := false }
  | .B => { x with b := false }
  | .S => { x with s := false }

/-- Whether the set has no member. -/
def LinkSet.isEmpty (x : LinkSet) : Bool := !(x.a || x.b || x.s)

/-- The code of a set of links: sum of A 1, B 2, S 4 (R174). -/
def LinkSet.code (x : LinkSet) : Nat := x.a.toNat + 2 * x.b.toNat + 4 * x.s.toNat

/-! ## Pending sets -/

/-- Whether panel link p is in the pending set. -/
def PanelSet.has (x : PanelSet) : Panel → Bool
  | .A => x.a
  | .B => x.b

/-- The pending set with panel link p removed (R142, R145). -/
def PanelSet.remove (x : PanelSet) : Panel → PanelSet
  | .A => { x with a := false }
  | .B => { x with b := false }

/-- Whether the pending set has no member. -/
def PanelSet.isEmpty (x : PanelSet) : Bool := !(x.a || x.b)

/-! ## Fault sets -/

/-- Whether a cause is in the fault set. -/
def FaultSet.has (x : FaultSet) : Cause → Bool
  | .sensorFault => x.sensorFault
  | .headRemoved => x.headRemoved
  | .selfTestFailed => x.selfTestFailed
  | .contaminated => x.contaminated
  | .lowBattery => x.lowBattery
  | .unsupervised => x.unsupervised

/-- The fault set with the cause's membership set to v. -/
def FaultSet.put (x : FaultSet) (c : Cause) (v : Bool) : FaultSet :=
  match c with
  | .sensorFault => { x with sensorFault := v }
  | .headRemoved => { x with headRemoved := v }
  | .selfTestFailed => { x with selfTestFailed := v }
  | .contaminated => { x with contaminated := v }
  | .lowBattery => { x with lowBattery := v }
  | .unsupervised => { x with unsupervised := v }

/-- The code of a fault set (R174). -/
def FaultSet.code (x : FaultSet) : Nat :=
  x.sensorFault.toNat + 2 * x.headRemoved.toNat + 4 * x.selfTestFailed.toNat +
    8 * x.contaminated.toNat + 16 * x.lowBattery.toNat + 32 * x.unsupervised.toNat

/-! ## Lost flags -/

/-- The lost flags with the flag of a class set (R137). -/
def LostFlags.raise (x : LostFlags) : EventClass → LostFlags
  | .fire => { x with fire := true }
  | .fault => { x with fault := true }
  | .warning => { x with warning := true }
  | .status => { x with status := true }

/-- Whether every lost flag is clear. -/
def LostFlags.isClear (x : LostFlags) : Bool := !(x.fire || x.fault || x.warning || x.status)

/-- The code of the lost flags: sum of Fire 1, Fault 2, Warning 4, Status 8 (R174). -/
def LostFlags.code (x : LostFlags) : Nat :=
  x.fire.toNat + 2 * x.fault.toNat + 4 * x.warning.toNat + 8 * x.status.toNat

/-! ## Credits -/

/-- The credit of one of the classes Fault, Warning and Status (R141); Fire has none. -/
def Credits.of (x : Credits) : EventClass → Nat
  | .fault => x.fault
  | .warning => x.warning
  | .status => x.status
  | .fire => 0

/-- The credits with one credit of the class spent (R141). -/
def Credits.spend (x : Credits) : EventClass → Credits
  | .fault => { x with fault := x.fault - 1 }
  | .warning => { x with warning := x.warning - 1 }
  | .status => { x with status := x.status - 1 }
  | .fire => x

end Sys2Proof.Machine
end

