-- ==== Sys2Proof/Machine/Formats.lean ====
section
/-! DEFINITION. Field encodings and codes (R174, R175, R176), the link CRC and the response frame (R150, R151),
and the radio frames (R177). -/

namespace Sys2Proof

/-- Link code: 1 A, 2 B, 3 S (R174). -/
def Link.code : Link → Nat
  | .A => 1
  | .B => 2
  | .S => 3

/-- The link code of a panel link. -/
def Panel.code : Panel → Nat
  | .A => 1
  | .B => 2

end Sys2Proof

namespace Sys2Proof.Machine

/-- A value below the range is replaced by its lower end and a value above by its upper end (00_scope). -/
def clamp (lo hi x : Nat) : Nat := max lo (min hi x)

/-- `clamp` on integers. -/
def clampInt (lo hi x : Int) : Int := max lo (min hi x)

/-! ## Field encodings (R174) -/

/-- A one-byte unsigned field, clamped (R174). -/
def enc8 (x : Nat) : List Byte := [BitVec.ofNat 8 (min 255 x)]

/-- A two-byte unsigned field, most significant byte first, clamped (R174). -/
def enc16 (x : Nat) : List Byte :=
  let y := min 65535 x
  [BitVec.ofNat 8 (y / 256), BitVec.ofNat 8 y]

/-- A three-byte unsigned field (identity, R174). -/
def enc24 (x : BitVec 24) : List Byte :=
  [x.extractLsb' 16 8, x.extractLsb' 8 8, x.extractLsb' 0 8]

/-- A four-byte unsigned field, clamped (R174). -/
def enc32 (x : Nat) : List Byte :=
  let y := min 4294967295 x
  [BitVec.ofNat 8 (y / 16777216), BitVec.ofNat 8 (y / 65536), BitVec.ofNat 8 (y / 256), BitVec.ofNat 8 y]

/-- A two-byte two's complement field, clamped (R174). -/
def encS16 (x : Int) : List Byte :=
  let y := BitVec.ofInt 16 (clampInt (-32768) 32767 x)
  [y.extractLsb' 8 8, y.extractLsb' 0 8]

/-- A four-byte two's complement field, clamped (R174: drift sum S). -/
def encS32 (x : Int) : List Byte :=
  let y := BitVec.ofInt 32 (clampInt (-2147483648) 2147483647 x)
  [y.extractLsb' 24 8, y.extractLsb' 16 8, y.extractLsb' 8 8, y.extractLsb' 0 8]

/-- A flag: 0 clear, 1 set (R174). -/
def encFlag (x : Bool) : List Byte := enc8 x.toNat

/-- A field that can be absent: a presence byte, then the value, 0 in the field's width when it is absent
(10_frame_and_record_formats, 10.1). -/
def encOpt {α : Type} (width : Nat) (f : α → List Byte) : Option α → List Byte
  | some x => 1 :: f x
  | none => 0 :: List.replicate width 0

/-- A two-byte operand, most significant byte first (R174). -/
def be16 (hi lo : Byte) : BitVec 16 := hi ++ lo

/-- A three-byte operand. -/
def be24 (a b c : Byte) : BitVec 24 := a ++ b ++ c

/-- A four-byte operand. -/
def be32 (a b c d : Byte) : BitVec 32 := a ++ b ++ c ++ d

/-! ## Codes (R174, R175, R176) -/

/-- Device kind code (R174). -/
def Kind.code : Kind → Nat
  | .smoke => 1
  | .heat => 2
  | .callPoint => 3
  | .repeater => 4

/-- The device kind of a code, if there is one (R174). -/
def Kind.ofCode (b : Byte) : Option Kind :=
  match b.toNat with
  | 1 => some .smoke
  | 2 => some .heat
  | 3 => some .callPoint
  | 4 => some .repeater
  | _ => none

/-- Entry state code (R174). -/
def Life.code : Life → Nat
  | .vacant => 0
  | .enrolling => 1
  | .calibrating => 2
  | .supervised => 3
  | .missing => 4

/-- Device condition code (R174). -/
def Cond.code : Cond → Nat
  | .quiet => 0
  | .preAlarm => 1
  | .fireLatched => 2

/-- Zone condition code (R174). -/
def ZoneCond.code : ZoneCond → Nat
  | .quiet => 0
  | .preAlarm => 1
  | .alerted => 2
  | .fire => 3

/-- Cell state code (R174). -/
def CellState.code : CellState → Nat
  | .absent => 0
  | .running => 1
  | .stopping => 2
  | .off => 3
  | .failed => 4

/-- Cycle slot record entry code (R174). -/
def SlotEntry.code : SlotEntry → Nat
  | .unowned => 0
  | .expecting => 1
  | .heard => 2
  | .missed => 3

/-- Move stage code (R174). -/
def Stage.code : Stage → Nat
  | .pending => 1
  | .announced => 2

/-- Mode code (R174). -/
def Mode.code : Mode → Nat
  | .single => 0
  | .corroborated => 1

/-- Profile code (R174). -/
def Profile.code : Profile → Nat
  | .normal => 0
  | .service => 1

/-- Event class code (R176). -/
def EventClass.code : EventClass → Nat
  | .status => 0
  | .warning => 1
  | .fault => 2
  | .fire => 3

/-- Cause code of DeviceFault and DeviceRestored (section 10.3). -/
def Cause.code : Cause → Nat
  | .sensorFault => 1
  | .headRemoved => 2
  | .selfTestFailed => 3
  | .contaminated => 4
  | .lowBattery => 5
  | .unsupervised => 6

/-- Cause code of DeviceRestored, Missing included (section 10.3). -/
def Restored.code : Restored → Nat
  | .missing => 7
  | .cause c => c.code

/-- Cause code of TestEnded (section 10.3). -/
def TestEnd.code : TestEnd → Nat
  | .expiry => 0
  | .link l => l.code
  | .disablement => 4

/-- Cause code of LinkDetached (section 10.3). -/
def DetachCause.code : DetachCause → Nat
  | .command => 0
  | .silence => 1

/-- Result code of a response (R175). -/
def Result.code : Result → Byte
  | .done => 0x00
  | .noChange => 0x01
  | .busy => 0x02
  | .badFrame => 0x10
  | .unknownCommand => 0x11
  | .levelNotGranted => 0x12
  | .levelTooLow => 0x13
  | .badTarget => 0x14
  | .cellAbsent => 0x15
  | .vacantTarget => 0x16
  | .notAttached => 0x17
  | .wrongState => 0x18
  | .slotTaken => 0x19
  | .zoneDisabled => 0x1A
  | .duplicateIdentity => 0x1B
  | .badValue => 0x1C
  | .stale => 0x1D
  | .notInAlarm => 0x1E
  | .notAcknowledged => 0x1F
  | .storeWriteFailed => 0x20

/-! ## The event record (R131, R133, R176) -/

/-- The class of an event (R133); that of a ZoneCondition follows the condition it reports (R105). -/
def EventBody.cls : EventBody → EventClass
  | .deviceFire .. => .fire
  | .zoneCondition _ .fire _ => .fire
  | .zoneCondition _ .alerted _ => .warning
  | .zoneCondition _ .preAlarm _ => .warning
  | .zoneCondition _ .quiet _ => .status
  | .deviceMissing .. => .fault
  | .deviceFault .. => .fault
  | .preAlarm .. => .warning
  | .corroborationLapsed .. => .warning
  | .enrolMismatch .. => .warning
  | .enrolmentTimedOut .. => .warning
  | .deviceRestored .. => .status
  | .deviceEnrolled .. => .status
  | .deviceRemoved .. => .status
  | .moveDone .. => .status
  | .testActivation .. => .status
  | .disabledCondition .. => .status
  | .zoneAcknowledged .. => .status
  | .zoneReset .. => .status
  | .deviceDisabled .. => .status
  | .zoneDisabled .. => .status
  | .deviceEnabled .. => .status
  | .zoneEnabled .. => .status
  | .testStarted .. => .status
  | .testEnded .. => .status
  | .profileChanged .. => .status
  | .linkDetached .. => .status

/-- The kind code of an event (R176). -/
def EventBody.code : EventBody → Nat
  | .deviceFire .. => 0x01
  | .zoneCondition .. => 0x02
  | .deviceMissing .. => 0x03
  | .deviceFault .. => 0x04
  | .preAlarm .. => 0x05
  | .corroborationLapsed .. => 0x06
  | .enrolMismatch .. => 0x07
  | .enrolmentTimedOut .. => 0x08
  | .deviceRestored .. => 0x09
  | .deviceEnrolled .. => 0x0A
  | .deviceRemoved .. => 0x0B
  | .moveDone .. => 0x0C
  | .testActivation .. => 0x0D
  | .disabledCondition .. => 0x0E
  | .zoneAcknowledged .. => 0x0F
  | .zoneReset .. => 0x10
  | .deviceDisabled .. => 0x11
  | .zoneDisabled .. => 0x11
  | .deviceEnabled .. => 0x12
  | .zoneEnabled .. => 0x12
  | .testStarted .. => 0x13
  | .testEnded .. => 0x14
  | .profileChanged .. => 0x15
  | .linkDetached .. => 0x16

/-- The subject type and number of an event (R176): device 1, zone 2, link 3. -/
def EventBody.subject : EventBody → Nat × Nat
  | .deviceFire i .. => (1, i.val)
  | .zoneCondition z .. => (2, z.val)
  | .deviceMissing i _ => (1, i.val)
  | .deviceFault i _ => (1, i.val)
  | .preAlarm i _ => (1, i.val)
  | .corroborationLapsed z .. => (2, z.val)
  | .enrolMismatch i _ => (1, i.val)
  | .enrolmentTimedOut i => (1, i.val)
  | .deviceRestored i _ => (1, i.val)
  | .deviceEnrolled i _ => (1, i.val)
  | .deviceRemoved i => (1, i.val)
  | .moveDone i _ => (1, i.val)
  | .testActivation i .. => (1, i.val)
  | .disabledCondition i .. => (1, i.val)
  | .zoneAcknowledged z .. => (2, z.val)
  | .zoneReset z .. => (2, z.val)
  | .deviceDisabled i _ => (1, i.val)
  | .zoneDisabled z _ => (2, z.val)
  | .deviceEnabled i _ => (1, i.val)
  | .zoneEnabled z _ => (2, z.val)
  | .testStarted z .. => (2, z.val)
  | .testEnded z .. => (2, z.val)
  | .profileChanged z .. => (2, z.val)
  | .linkDetached p _ => (3, p.code)

/-- The detail bytes of an event (R133, section 10.3): generations and elapsed times take two bytes and every
other item one. -/
def EventBody.detail : EventBody → List Byte
  | .deviceFire _ z g level elapsed => enc8 z.val ++ enc16 g.toNat ++ enc8 level ++ enc16 elapsed
  | .zoneCondition _ c g => enc8 c.code ++ enc16 g.toNat
  | .deviceMissing _ lost => encFlag lost
  | .deviceFault _ c => enc8 c.code
  | .preAlarm _ level => enc8 level
  | .corroborationLapsed _ i g => enc8 i.val ++ enc16 g.toNat
  | .enrolMismatch _ k => [k]
  | .enrolmentTimedOut _ => []
  | .deviceRestored _ r => enc8 r.code
  | .deviceEnrolled _ c => enc8 c.val
  | .deviceRemoved _ => []
  | .moveDone _ old => enc8 old.val
  | .testActivation _ z level => enc8 z.val ++ enc8 level
  | .disabledCondition _ z level => enc8 z.val ++ enc8 level
  | .zoneAcknowledged _ g l => enc16 g.toNat ++ enc8 l.code
  | .zoneReset _ g l => enc16 g.toNat ++ enc8 l.code
  | .deviceDisabled _ l => enc8 l.code
  | .zoneDisabled _ l => enc8 l.code
  | .deviceEnabled _ l => enc8 l.code
  | .zoneEnabled _ l => enc8 l.code
  | .testStarted _ l minutes => enc8 l.code ++ enc8 minutes
  | .testEnded _ l c => enc8 l.code ++ enc8 c.code
  | .profileChanged _ p l minutes => enc8 p.code ++ enc8 ((l.map Link.code).getD 0) ++ enc8 minutes
  | .linkDetached _ c => enc8 c.code

/-- The event record of a Fetch Event answer (R176). -/
def Event.record (e : Event) : List Byte :=
  enc16 e.seq.toNat ++ enc8 e.body.cls.code ++ enc8 e.body.code ++ enc8 e.body.subject.1 ++
    enc8 e.body.subject.2 ++ enc32 e.siteTime.toNat ++ enc8 e.body.detail.length ++ e.body.detail

/-! ## The link CRC and the response frame (R150, R151) -/

/-- One bit of the CRC: polynomial x^16 + x^12 + x^5 + 1, most significant bit first (R150). -/
def crcShift (c : BitVec 16) : BitVec 16 :=
  if c.msb then (c <<< 1) ^^^ 0x1021 else c <<< 1

/-- One byte of the CRC (R150). -/
def crcByte (c : BitVec 16) (b : Byte) : BitVec 16 :=
  let x := c ^^^ (b ++ (0 : BitVec 8))
  crcShift (crcShift (crcShift (crcShift (crcShift (crcShift (crcShift (crcShift x)))))))

/-- The CRC of R150 over a list of bytes, from 0xFFFF, without final inversion. -/
def crc16 (bs : List Byte) : BitVec 16 := bs.foldl crcByte 0xFFFF

/-- The bytes of a response frame that its CRC covers (R150, R151, section 10.2). -/
def Response.body (r : Response) : List Byte :=
  BitVec.ofNat 8 (4 + r.reply.data.length) :: r.tag :: r.reply.result.code :: (enc16 r.reply.value ++ r.reply.data)

/-- The response frame as it is sent (R151, section 10.2). -/
def Response.frame (r : Response) : List Byte :=
  0xC3 :: (r.body ++ [(crc16 r.body).extractLsb' 8 8, (crc16 r.body).extractLsb' 0 8])

/-! ## Radio frames (section 10.4, R177) -/

/-- The fields of a Report or Alarm frame (section 10.4). -/
structure Sample where
  identity : BitVec 24
  seq : Fin 16
  reading : Byte
  battery : Fin 8
  path : Path
  deriving DecidableEq, Repr

/-- An uplink frame that test 1 of copy acceptance recognises (R177). -/
inductive Uplink where
  | report (x : Sample)
  | alarm (x : Sample)
  | enrol (identity : BitVec 24) (kind : Byte) (path : Path)
  deriving DecidableEq, Repr

/-- The identity an uplink frame carries. -/
def Uplink.identity : Uplink → BitVec 24
  | .report x => x.identity
  | .alarm x => x.identity
  | .enrol i _ _ => i

/-- The path an uplink frame came by (R177). -/
def Uplink.path : Uplink → Path
  | .report x => x.path
  | .alarm x => x.path
  | .enrol _ _ p => p

/-- The sample fields when sequence, battery class and path lie in their ranges (R177). -/
def Sample.parse (i1 i2 i3 seq reading battery path : Byte) : Option Sample :=
  if hs : seq.toNat < 16 then
    if hb : battery.toNat < 8 then
      if hp : path.toNat < 16 then
        some { identity := be24 i1 i2 i3, seq := ⟨seq.toNat, hs⟩, reading := reading,
               battery := ⟨battery.toNat, hb⟩, path := ⟨path.toNat, hp⟩ }
      else none
    else none
  else none

/-- Test 1's recognition of an uplink frame by first byte, length and field ranges (R177). -/
def Uplink.parse : List Byte → Option Uplink
  | [k, i1, i2, i3, seq, reading, battery, path] =>
    if k = 0x01 then (Sample.parse i1 i2 i3 seq reading battery path).map .report
    else if k = 0x02 then (Sample.parse i1 i2 i3 seq reading battery path).map .alarm
    else none
  | [k, i1, i2, i3, kind, path] =>
    if hp : path.toNat < 16 then
      if k = 0x03 ∧ 1 ≤ kind.toNat ∧ kind.toNat ≤ 4 then some (.enrol (be24 i1 i2 i3) kind ⟨path.toNat, hp⟩)
      else none
    else none
  | _ => none

/-- The beacon frame (section 10.4): cell, phase, cycle count mod 256, and the flags of R28. -/
def beaconBytes (c : CellIx) (phase : Fin 8) (cycle : BitVec 16) (enrolmentOpen stopping : Bool) : List Byte :=
  [0x10, BitVec.ofNat 8 c.val, BitVec.ofNat 8 phase.val, cycle.extractLsb' 0 8,
    BitVec.ofNat 8 (enrolmentOpen.toNat + 2 * stopping.toNat)]

/-- Where a reassignment sends a device (R40): cell, channel and home slot. -/
structure Reassignment where
  cell : CellIx
  channel : Channel
  slot : Slot
  deriving DecidableEq, Repr

/-- The acknowledgement frame (section 10.4, R39, R177). -/
def ackBytes (identity : BitVec 24) (seq : Fin 16) (correction : Int) (wake : Nat) (latched : Bool)
    (re : Option Reassignment) (path : Path) : List Byte :=
  (0x11 :: enc24 identity) ++ enc8 seq.val ++ encS16 correction ++ enc8 wake ++
    enc8 (latched.toNat + 2 * re.isSome.toNat) ++
    (match re with
      | some r => enc8 r.cell.val ++ enc8 r.channel.val ++ enc8 r.slot.val
      | none => [0, 0, 0]) ++
    enc8 path.val

/-- The grant frame (section 10.4, R9). -/
def grantBytes (identity : BitVec 24) (cell : CellIx) (channel : Channel) (slot : Slot) (wake : Nat)
    (path : Path) : List Byte :=
  (0x12 :: enc24 identity) ++ enc8 cell.val ++ enc8 channel.val ++ enc8 slot.val ++ enc8 wake ++ enc8 path.val

end Sys2Proof.Machine
end

