-- ==== Sys2Proof/Machine/Operands.lean ====
section
/-! DEFINITION. Operand forms: the command code table with operand counts and levels (R155, R175, section 8.5),
the range checks of targets (R155 check 5), and the clamping of operands (R92, R126, R129, R159). -/

namespace Sys2Proof

/-- The code of a command (R175). -/
def Command.code : Command → Byte
  | .readStatus => 0x01
  | .readDevice => 0x02
  | .readZone => 0x03
  | .readCell => 0x04
  | .readRoute => 0x05
  | .readIdentity => 0x06
  | .attach => 0x10
  | .detach => 0x11
  | .fetchEvent => 0x12
  | .acknowledgeZone => 0x20
  | .resetZone => 0x21
  | .acknowledgeAll => 0x22
  | .resetAll => 0x23
  | .disableDevice => 0x24
  | .enableDevice => 0x25
  | .disableZone => 0x26
  | .enableZone => 0x27
  | .startTest => 0x28
  | .endTest => 0x29
  | .selectProfile => 0x2A
  | .setTime => 0x2B
  | .clearCellStatistics => 0x2C
  | .enrolDevice => 0x30
  | .removeDevice => 0x31
  | .moveDevice => 0x32
  | .cancelMove => 0x33
  | .pinRoute => 0x34
  | .unpinRoute => 0x35
  | .setZoneParameters => 0x36
  | .setSiteParameters => 0x37
  | .setCellChannel => 0x38
  | .stopCell => 0x39
  | .startCell => 0x3A
  | .clearDisablements => 0x3B
  | .restart => 0x3C

/-- Every command of the code table (R175). -/
def Command.all : List Command :=
  [.readStatus, .readDevice, .readZone, .readCell, .readRoute, .readIdentity, .attach, .detach, .fetchEvent,
   .acknowledgeZone, .resetZone, .acknowledgeAll, .resetAll, .disableDevice, .enableDevice, .disableZone,
   .enableZone, .startTest, .endTest, .selectProfile, .setTime, .clearCellStatistics, .enrolDevice,
   .removeDevice, .moveDevice, .cancelMove, .pinRoute, .unpinRoute, .setZoneParameters, .setSiteParameters,
   .setCellChannel, .stopCell, .startCell, .clearDisablements, .restart]

/-- The command of a code, if the code is known (R155 check 2). -/
def Command.ofCode (b : Byte) : Option Command := Command.all.find? fun c => c.code = b

/-- The number of operand bytes a command requires (R175). -/
def Command.operands : Command → Nat
  | .readStatus => 0
  | .readDevice => 1
  | .readZone => 1
  | .readCell => 1
  | .readRoute => 1
  | .readIdentity => 0
  | .attach => 0
  | .detach => 0
  | .fetchEvent => 0
  | .acknowledgeZone => 3
  | .resetZone => 3
  | .acknowledgeAll => 2
  | .resetAll => 2
  | .disableDevice => 1
  | .enableDevice => 1
  | .disableZone => 1
  | .enableZone => 1
  | .startTest => 2
  | .endTest => 1
  | .selectProfile => 3
  | .setTime => 4
  | .clearCellStatistics => 1
  | .enrolDevice => 6
  | .removeDevice => 1
  | .moveDevice => 2
  | .cancelMove => 1
  | .pinRoute => 2
  | .unpinRoute => 2
  | .setZoneParameters => 15
  | .setSiteParameters => 7
  | .setCellChannel => 2
  | .stopCell => 1
  | .startCell => 1
  | .clearDisablements => 0
  | .restart => 0

/-- The level a command requires from a link (R155 check 4, section 8.5): Clear Cell Statistics requires
level 3 from Link S and level 2 from Link A and Link B. -/
def Command.level (c : Command) (l : Link) : Nat :=
  match c with
  | .readStatus | .readDevice | .readZone | .readCell | .readRoute | .readIdentity => 1
  | .attach | .detach | .fetchEvent => 1
  | .acknowledgeZone | .resetZone | .acknowledgeAll | .resetAll => 2
  | .disableDevice | .enableDevice | .disableZone | .enableZone => 2
  | .startTest | .endTest | .selectProfile | .setTime => 2
  | .clearCellStatistics => if l = .S then 3 else 2
  | .enrolDevice | .removeDevice | .moveDevice | .cancelMove | .pinRoute | .unpinRoute => 3
  | .setZoneParameters | .setSiteParameters | .setCellChannel | .stopCell | .startCell => 3
  | .clearDisablements | .restart => 3

/-- The level a link is granted (R154): 2 for the panel links, 3 for Link S while its key is asserted and 1
while it is not. -/
def Link.grant (l : Link) (key : Bool) : Nat :=
  match l with
  | .A | .B => 2
  | .S => if key then 3 else 1

end Sys2Proof

namespace Sys2Proof.Machine

/-- A reply that refuses with a value (R156). -/
def refuse {α : Type} (r : Result) (value : Nat := 0) : Except Reply α := .error { result := r, value := value }

/-- A check: refused with the reply unless the condition holds. -/
def check (ok : Bool) (r : Result) (value : Nat := 0) : Except Reply Unit :=
  if ok then .ok () else refuse r value

/-- Check 5 for a roster index operand (R155). -/
def deviceTarget (b : Byte) : Except Reply DevIx :=
  if h : b.toNat < 192 then .ok ⟨b.toNat, h⟩ else refuse .badTarget b.toNat

/-- Check 5 for a zone operand (R155). -/
def zoneTarget (b : Byte) : Except Reply ZoneIx :=
  if h : b.toNat < 32 then .ok ⟨b.toNat, h⟩ else refuse .badTarget b.toNat

/-- Check 5 for a cell operand (R155). -/
def cellTarget (b : Byte) : Except Reply CellIx :=
  if h : b.toNat < 4 then .ok ⟨b.toNat, h⟩ else refuse .badTarget b.toNat

/-- Checks 1, 3 and 4 of R155 for a frame of a known command, in their order. -/
def linkChecks (h : FrameHead) (c : Command) (count : Nat) : Except Reply Unit := do
  check (count = c.operands) .badFrame
  check (h.level.toNat ≤ h.link.grant h.key) .levelNotGranted
  check (c.level h.link ≤ h.level.toNat) .levelTooLow

/-- A mode operand (R174). -/
def modeOperand (b : Byte) : Option Mode :=
  match b.toNat with
  | 0 => some .single
  | 1 => some .corroborated
  | _ => none

/-- A profile operand (R174). -/
def profileOperand (b : Byte) : Option Profile :=
  match b.toNat with
  | 0 => some .normal
  | 1 => some .service
  | _ => none

/-- The duration of a test in minutes, clamped to 10 to 240 (R126). -/
def testMinutes (b : Byte) : Nat := clamp 10 240 b.toNat

/-- The duration of a Service profile in minutes, clamped to 15 to 240 (R129). -/
def profileMinutes (b : Byte) : Nat := clamp 15 240 b.toNat

/-- Whether a threshold pair lies in its ranges: Tpre 3 to 200, Tfire Tpre + 1 to 240 (R92). -/
def thresholdsOk (tpre tfire : Nat) : Bool :=
  3 ≤ tpre && tpre ≤ 200 && tpre + 1 ≤ tfire && tfire ≤ 240

/-- The zone parameter set of a Set Zone Parameters frame after clamping, or BAD_VALUE (R92). -/
def zoneParamsOperand (mode cwHi cwLo npre nfire spre sfire v vw n l tfix pre rise : Byte) :
    Except Reply ZoneParams :=
  let n' := clamp 0 100 n.toNat
  let l' := clamp 20 120 l.toNat
  match modeOperand mode with
  | none => refuse .badValue
  | some m =>
    if !thresholdsOk npre.toNat nfire.toNat || !thresholdsOk spre.toNat sfire.toNat || l' ≤ n' then
      refuse .badValue
    else
      .ok { mode := m
            corrWindow := clamp 30 600 (be16 cwHi cwLo).toNat
            normalTpre := npre.toNat
            normalTfire := nfire.toNat
            serviceTpre := spre.toNat
            serviceTfire := sfire.toNat
            verifications := clamp 1 4 v.toNat
            verifWindow := clamp 6 120 vw.toNat
            nominal := n'
            compLimit := l'
            tfix := clamp 100 180 tfix.toNat
            preOffset := clamp 4 40 pre.toNat
            rrise := clamp 6 40 rise.toNat }

/-- The site parameter set of a Set Site Parameters frame after clamping (R159). -/
def siteParamsOperand (miss age holdHi holdLo wf ww ws : Byte) : SiteParams where
  missLimit := clamp 2 10 miss.toNat
  routeAge := clamp 4 64 age.toNat
  holdOff := clamp 60 3600 (be16 holdHi holdLo).toNat
  wFault := clamp 1 15 wf.toNat
  wWarning := clamp 1 15 ww.toNat
  wStatus := clamp 1 15 ws.toNat

end Sys2Proof.Machine
end

