-- ==== Sys2Proof/Machine/Ops.lean ====
section
/-! DEFINITION. The named operations over the state: records by index, slot ownership (R1), event creation and
overflow (R131 to R137), answers (R151), and what a part that does not run does with a step (R170). -/

namespace Sys2Proof.Machine

/-! ## Records by index -/

/-- The device record at a roster index. -/
def State.dev (s : State) (i : DevIx) : Device := s.roster[i]

/-- The state with the device record at an index replaced. -/
def State.setDev (s : State) (i : DevIx) (d : Device) : State := { s with roster := s.roster.set i d }

/-- The state with a device record changed by f. -/
def State.modDev (s : State) (i : DevIx) (f : Device → Device) : State := s.setDev i (f (s.dev i))

/-- The state with every device record changed by f. -/
def State.mapDevs (s : State) (f : DevIx → Device → Device) : State :=
  { s with roster := Vector.ofFn fun i => f i (s.dev i) }

/-- The zone record of a zone. -/
def State.zone (s : State) (z : ZoneIx) : Zone := s.zones[z]

/-- The state with a zone record replaced. -/
def State.setZone (s : State) (z : ZoneIx) (r : Zone) : State := { s with zones := s.zones.set z r }

/-- The state with a zone record changed by f. -/
def State.modZone (s : State) (z : ZoneIx) (f : Zone → Zone) : State := s.setZone z (f (s.zone z))

/-- The cell record of a cell. -/
def State.cell (s : State) (c : CellIx) : Cell := s.cells[c]

/-- The state with a cell record replaced. -/
def State.setCell (s : State) (c : CellIx) (r : Cell) : State := { s with cells := s.cells.set c r }

/-- The state with a cell record changed by f. -/
def State.modCell (s : State) (c : CellIx) (f : Cell → Cell) : State := s.setCell c (f (s.cell c))

/-- The state each link keeps (R153). -/
def State.port (s : State) : Link → Port
  | .A => s.portA
  | .B => s.portB
  | .S => s.portS

/-- The state with a link's port replaced. -/
def State.setPort (s : State) (l : Link) (p : Port) : State :=
  match l with
  | .A => { s with portA := p }
  | .B => { s with portB := p }
  | .S => { s with portS := p }

/-- The delivery state of a panel link. -/
def State.panel (s : State) : Panel → Delivery
  | .A => s.panelA
  | .B => s.panelB

/-- The state with a panel link's delivery state replaced. -/
def State.setPanel (s : State) (p : Panel) (d : Delivery) : State :=
  match p with
  | .A => { s with panelA := d }
  | .B => { s with panelB := d }

/-- Every roster index, in index order. -/
def allDevs : List DevIx := List.finRange 192

/-- Every zone, in zone-number order. -/
def allZones : List ZoneIx := List.finRange 32

/-- Every cell, in cell-number order. -/
def allCells : List CellIx := List.finRange 4

/-- The lowest roster index whose record satisfies p. -/
def State.findDev (s : State) (p : DevIx → Device → Bool) : Option DevIx :=
  allDevs.find? fun i => p i (s.dev i)

/-- The number of roster entries whose record satisfies p. -/
def State.countDevs (s : State) (p : DevIx → Device → Bool) : Nat :=
  (allDevs.filter fun i => p i (s.dev i)).length

/-! ## Slots and their owners (R1) -/

/-- The home cell of a roster index: i div 48 (R1). -/
def homeCell (i : DevIx) : CellIx := ⟨i.val / 48, by omega⟩

/-- The home slot of a roster index: i mod 48 (R1). -/
def homeSlot (i : DevIx) : Slot := ⟨i.val % 48, by omega⟩

/-- The roster index homed in slot h of cell c (R1, R35). -/
def slotIndex (c : CellIx) (h : Slot) : DevIx := ⟨48 * c.val + h.val, by omega⟩

/-- An entry owns its slot while Calibrating, Supervised or Missing (R1). -/
def Life.owns : Life → Bool
  | .calibrating | .supervised | .missing => true
  | .vacant | .enrolling => false

/-- Whether an index holds the shadow slot of index i for an owning entry (R1, R20). -/
def Device.shadows (d : Device) (i : DevIx) : Bool := d.life.owns && d.shadow == some i

/-- The entry that holds index i's home slot as its shadow slot (R1). -/
def State.shadowHolder (s : State) (i : DevIx) : Option DevIx := s.findDev fun _ d => d.shadows i

/-- Whether a record has a move with target i (R17). -/
def Device.movesTo (d : Device) (i : DevIx) : Bool :=
  match d.move with
  | some m => m.target == i
  | none => false

/-- The entry whose move targets index i (R1). -/
def State.moverTo (s : State) (i : DevIx) : Option DevIx := s.findDev fun _ d => d.movesTo i

/-- An index is free when it is Vacant, its home slot is no entry's shadow slot, and it is the target of no
entry's move (R1). -/
def State.isFree (s : State) (i : DevIx) : Bool :=
  (s.dev i).life == .vacant && (s.shadowHolder i).isNone && (s.moverTo i).isNone

/-- The entry, not Vacant, that holds an identity (R7). -/
def State.holder (s : State) (identity : BitVec 24) : Option DevIx :=
  s.findDev fun _ d => d.life != .vacant && d.identity == identity

/-- Whether a record is a Repeater with relay number p whose state satisfies ok. -/
def Device.isRelay (d : Device) (p : Path) (ok : Life → Bool) : Bool :=
  ok d.life && d.kind == .repeater && d.relay == p

/-- Whether some Repeater entry that is not Vacant has relay number p (R7, R59). -/
def State.relayUsed (s : State) (p : Path) : Bool :=
  (s.findDev fun _ d => d.isRelay p (· != .vacant)).isSome

/-- A record made Vacant: every field but the state and the store-outstanding flag becomes absent or empty,
and both route entries are cleared (R3). -/
def Device.vacated (d : Device) : Device := { outstanding := d.outstanding }

/-! ## Events (section 7.3) -/

/-- The panel links attached at this moment: the pending set of an event created now (R134). -/
def State.attachedSet (s : State) : PanelSet := { a := s.panelA.attached, b := s.panelB.attached }

/-- The classes a victim may have for a new event of a class, lowest first (R136). -/
def victimClasses : EventClass → List EventClass
  | .status => [.status]
  | .warning => [.status, .warning]
  | .fault => [.status, .warning, .fault]
  | .fire => [.status, .warning, .fault]

/-- The class of the victim: the lowest candidate class of which an event is stored (R136). -/
def victimClass (events : List Event) (new : EventClass) : Option EventClass :=
  (victimClasses new).find? fun c => events.any fun e => e.body.cls = c

/-- The state with the lost flag of the event's class raised for each link in its pending set (R137). -/
def State.raiseLost (s : State) (e : Event) : State :=
  { s with
    panelA := if e.pending.a then { s.panelA with lost := s.panelA.lost.raise e.body.cls } else s.panelA
    panelB := if e.pending.b then { s.panelB with lost := s.panelB.lost.raise e.body.cls } else s.panelB }

/-- The event that a creation makes now (R131, R132, R134). -/
def State.newEvent (s : State) (b : EventBody) : Event where
  seq := s.nextSeq
  siteTime := s.siteTime
  body := b
  pending := s.attachedSet

/-- Storing an event (R135), with the overflow rule when the store holds 256 (R136, R137). -/
def State.storeEvent (s : State) (e : Event) : State :=
  if s.events.length < 256 then { s with events := s.events ++ [e] }
  else
    match victimClass s.events e.body.cls with
    | none => s.raiseLost e
    | some c =>
      match s.events.find? fun v => v.body.cls = c with
      | none => s.raiseLost e
      | some v => { s.raiseLost v with events := s.events.eraseP (fun x => x.body.cls = c) ++ [e] }

/-- The creation of an event: it takes the next sequence number (R132) and is stored unless its pending set
is empty (R134). -/
def State.create (s : State) (b : EventBody) : State :=
  let e := s.newEvent b
  let t := { s with nextSeq := s.nextSeq + 1 }
  if e.pending.isEmpty then t else t.storeEvent e

/-- The creation of several events, in the order of the list (R132). -/
def State.createAll (s : State) (bs : List EventBody) : State := bs.foldl State.create s

/-! ## Answers (R151) -/

/-- The production of a response on a link (R151). What becomes of a response produced while four are held is
open: Config.fifthResponseKept (log 9). -/
def State.answer (s : State) (l : Link) (tag : Byte) (r : Reply) : State :=
  if (s.port l).responses.length < 4 || Config.fifthResponseKept then
    s.setPort l { s.port l with responses := (s.port l).responses ++ [{ tag := tag, reply := r }] }
  else s

/-- Whether a link passes the attachment check of the operator commands: Link S always does (R112, R158). -/
def State.mayOperate (s : State) : Link → Bool
  | .A => s.panelA.attached
  | .B => s.panelB.attached
  | .S => true

/-- Check 8 of R155 for the operator commands (R112). -/
def State.checkAttached (s : State) (h : FrameHead) : Except Reply Unit :=
  check (s.mayOperate h.link) .notAttached

/-- Check 6 of R155: the cell is not Absent. -/
def State.checkFitted (s : State) (c : CellIx) : Except Reply Unit :=
  check ((s.cell c).state != .absent) .cellAbsent

/-- Check 7 of R155: the entry is not Vacant. -/
def State.checkPresent (s : State) (i : DevIx) : Except Reply Unit :=
  check ((s.dev i).life != .vacant) .vacantTarget

/-! ## Running and held -/

/-- A step other than those of start-up acts only while the part runs: held, its links receive nothing, its
cells request nothing and no timer runs (R170); while it probes, the schedule and the blocks have not
started (R173; log 20). -/
def State.whenRunning (s : State) (f : State → State) : State :=
  if s.phase = .running then f s else s

end Sys2Proof.Machine
end

