-- ==== Sys2Proof/Machine/Routes.lean ====
section
/-! DEFINITION. The Route Table (03, section 3.5): learning, replacement, aging, choice of the preferred path,
and what a pin does to the two route positions of a device (R54 to R61). -/

namespace Sys2Proof.Machine

/-- The route entry for path p, if one of the positions has it (R54). -/
def RoutePair.find (x : RoutePair) (p : Path) : Option Route :=
  match x.first, x.second with
  | some a, some b => if a.path = p then some a else if b.path = p then some b else none
  | some a, none => if a.path = p then some a else none
  | none, some b => if b.path = p then some b else none
  | none, none => none

/-- The pair with the entry for path p changed by f. -/
def RoutePair.update (x : RoutePair) (p : Path) (f : Route → Route) : RoutePair where
  first := x.first.map fun a => if a.path = p then f a else a
  second := x.second.map fun b => if b.path = p then f b else b

/-- Of two entries, whether the one in the first position is the one R56 replaces; none when both are
pinned. -/
def replacesFirst (a b : Route) : Option Bool :=
  if a.pinned then if b.pinned then none else some false
  else if b.pinned then some true
  else if a.quality ≠ b.quality then some (a.quality < b.quality)
  else some (b.age < a.age)

/-- Placing a new entry when no position has its path: the first free position takes it (R55), else it
replaces an unpinned entry, else nothing changes (R56). -/
def RoutePair.place (x : RoutePair) (r : Route) : RoutePair :=
  match x.first, x.second with
  | none, _ => { x with first := some r }
  | some _, none => { x with second := some r }
  | some a, some b =>
    match replacesFirst a b with
    | some true => { x with first := some r }
    | some false => { x with second := some r }
    | none => x

/-- Learning from an accepted copy by path p with level lv (R55). -/
def RoutePair.learn (x : RoutePair) (p : Path) (lv : Nat) : RoutePair :=
  if (x.find p).isSome then
    x.update p fun r => { r with quality := (3 * r.quality + lv + 1) / 4, age := 0, delivered := true }
  else x.place { path := p, quality := lv, age := 0, delivered := true, pinned := false }

/-- Aging of one entry at a counted slot close (R57). -/
def Route.aged (r : Route) (limit : Nat) : Option Route :=
  let age := if r.delivered then r.age else min 255 (r.age + 1)
  if !r.pinned && limit ≤ age then none else some { r with age := age, delivered := false }

/-- Aging of a device's entries at a counted slot close (R57). -/
def RoutePair.aged (x : RoutePair) (limit : Nat) : RoutePair where
  first := x.first.bind fun r => r.aged limit
  second := x.second.bind fun r => r.aged limit

/-- Whether entry a is preferred to entry b (R58): smaller age, then higher quality, then direct before
relayed and the lower relay number. -/
def Route.preferredTo (a b : Route) : Bool :=
  if a.age ≠ b.age then a.age < b.age
  else if a.quality ≠ b.quality then b.quality < a.quality
  else a.path ≤ b.path

/-- The preferred path of a device: direct when it has no route entry (R58). -/
def RoutePair.preferred (x : RoutePair) : Path :=
  match x.first, x.second with
  | some a, some b => if a.preferredTo b then a.path else b.path
  | some a, none => a.path
  | none, some b => b.path
  | none, none => 0

/-- The entries with those naming path p deleted, pinned or not (R16). -/
def RoutePair.drop (x : RoutePair) (p : Path) : RoutePair where
  first := x.first.filter fun r => r.path ≠ p
  second := x.second.filter fun r => r.path ≠ p

/-- A pin of path p applied to the entries as they stand (R59). -/
def RoutePair.pin (x : RoutePair) (p : Path) : RoutePair :=
  if (x.find p).isSome then x.update p fun r => { r with pinned := true }
  else x.place { path := p, quality := 0, age := 0, delivered := false, pinned := true }

/-- An unpin of path p (R60). -/
def RoutePair.unpin (x : RoutePair) (p : Path) : RoutePair :=
  x.update p fun r => { r with pinned := false }

/-- Whether both positions hold pinned entries (R59). -/
def RoutePair.bothPinned (x : RoutePair) : Bool :=
  match x.first, x.second with
  | some a, some b => a.pinned && b.pinned
  | _, _ => false

/-- The path of a position when its entry is pinned: what the store keeps of it (R167). -/
def pinnedPath (r : Option Route) : Option Path := (r.filter fun r => r.pinned).map fun r => r.path

/-- A stored pinned route placed at start-up (R54). -/
def restoredRoute (p : Option Path) : Option Route :=
  p.map fun p => { path := p, quality := 0, age := 0, delivered := false, pinned := true }

end Sys2Proof.Machine
end

