-- ==== Sys2Proof/Machine/Store.lean ====
section
/-! DEFINITION. The Configuration Store (09, sections 9.1 and 9.2): composing an image, requesting, starting and
ending a write (R167 to R169), and what a command's write end does with it (R152, R157). -/

namespace Sys2Proof.Machine

/-- The stored entry that an index's working content gives (R168). -/
def Device.stored (d : Device) : Option StoredEntry :=
  if d.life = .vacant then none
  else some { identity := d.identity, kind := d.kind, zone := d.zone, relay := d.relay, granted := d.granted,
              pinFirst := pinnedPath d.routes.first, pinSecond := pinnedPath d.routes.second }

/-- Whether a stored entry holds a pinned route on path p. -/
def StoredEntry.pins (e : StoredEntry) (p : Path) : Bool := e.pinFirst == some p || e.pinSecond == some p

/-- A stored entry without its pinned route on path p (R14, R16, R60). -/
def StoredEntry.dropPin (e : StoredEntry) (p : Path) : StoredEntry :=
  { e with pinFirst := e.pinFirst.filter (· ≠ p), pinSecond := e.pinSecond.filter (· ≠ p) }

/-- A stored entry with a pinned route on path p added: in the only position that is free, or, of two, in the one that
path p has among the route entries x; the stored route of another path stays (R168; log 13). -/
def StoredEntry.addPin (e : StoredEntry) (p : Path) (x : RoutePair) : StoredEntry :=
  if e.pins p then e
  else if e.pinFirst.isNone && e.pinSecond.isSome then { e with pinFirst := some p }
  else if e.pinFirst.isSome && e.pinSecond.isNone then { e with pinSecond := some p }
  else if x.second.any (·.path = p) then { e with pinSecond := some p }
  else { e with pinFirst := some p }

/-! ## The CRC of an image (R150, R167) -/

/-- A stored path as an item: 0 for none, and the path plus 1. -/
def pathItem : Option Path → Nat
  | none => 0
  | some p => p.val + 1

/-- The items of a stored entry (R167). -/
def StoredEntry.items (e : StoredEntry) : List Nat :=
  [e.identity.toNat, e.kind.code, e.zone.val, e.relay.val, e.granted.toNat, pathItem e.pinFirst,
   pathItem e.pinSecond]

/-- The items of a roster index: whether it holds a stored entry, and the entry's (R167). -/
def entryItems : Option StoredEntry → List Nat
  | none => [0]
  | some e => 1 :: e.items

/-- The items of a zone's parameter set (R92, R167). -/
def ZoneParams.items (p : ZoneParams) : List Nat :=
  [p.mode.code, p.corrWindow, p.normalTpre, p.normalTfire, p.serviceTpre, p.serviceTfire, p.verifications,
   p.verifWindow, p.nominal, p.compLimit, p.tfix, p.preOffset, p.rrise]

/-- The items of the site section (R159, R167). -/
def SiteParams.items (p : SiteParams) : List Nat :=
  [p.missLimit, p.routeAge, p.holdOff, p.wFault, p.wWarning, p.wStatus]

/-- Every item of an image but its CRC, in the order of the table of R167. -/
def Image.items (im : Image) : List Nat :=
  (im.roster.toList.map entryItems).flatten ++ (im.zones.toList.map ZoneParams.items).flatten ++
    im.channels.toList.map (·.val) ++ im.site.items ++ [im.number.toNat]

/-- The CRC of an image: that of R150 over every item but the CRC itself, in the bytes the store holds them in
(R167; log 11). -/
def Image.crc (im : Image) : BitVec 16 := crc16 (Config.imageBytes im.items)

/-- A bank holding an image with its own CRC, as a whole write leaves it (R168). -/
def Image.sealed (im : Image) : Bank := .holds im im.crc

/-! ## Banks (R167) -/

/-- The contents of a bank. -/
def Store.bank (x : Store) : BankNo → Bank
  | .zero => x.bank0
  | .one => x.bank1

/-- The store with a bank's contents replaced. -/
def Store.setBank (x : Store) (n : BankNo) (b : Bank) : Store :=
  match n with
  | .zero => { x with bank0 := b }
  | .one => { x with bank1 := b }

/-- The image that a bank holds, when its CRC agrees with its contents (R167). -/
def Bank.image : Bank → Option Image
  | .holds im crc => if crc = im.crc then some im else none
  | .erased => none
  | .spoiled => none

/-- The image in force (R167). -/
def Store.inForce (x : Store) : Option Image := x.current.bind fun n => (x.bank n).image

/-- The bank a write goes into: the one that is not current, or bank 0 when neither is (R168). -/
def Store.target (x : Store) : BankNo :=
  match x.current with
  | some .zero => .one
  | some .one => .zero
  | none => .zero

/-! ## Composing an image (R168) -/

/-- The whole working configuration as an image, for a write when no image is in force (R168). -/
def State.workingImage (s : State) : Image where
  roster := Vector.ofFn fun i => (s.dev i).stored
  zones := Vector.ofFn fun z => (s.zone z).params
  channels := Vector.ofFn fun c => (s.cell c).channel
  site := s.site
  number := 0

/-- What a new image starts from: the image in force with the next write number, or the working
configuration with write number 0 (R168). -/
def State.baseImage (s : State) : Image :=
  match s.store.inForce with
  | some im => { im with number := im.number + 1 }
  | none => s.workingImage

/-- Where the record that a command was about stands now: at its index, or at the index its move was
transferred to (R14, R59; log 27). -/
def State.follow (s : State) (i : DevIx) (identity : BitVec 24) : Option DevIx :=
  if (s.dev i).life ≠ .vacant ∧ (s.dev i).identity = identity then some i else s.holder identity

/-- The indices whose stored entries the write of a Remove Device erases: the command's, and the index at which a
transfer taken before the write starts has left the record (R14, R168, R169). -/
def State.removedIndices (s : State) (i : DevIx) (identity : BitVec 24) : List DevIx :=
  i :: (s.follow i identity).toList

/-- The stored entry of an index that a command's record is written into: the one of the base image, or the
working content when the index's store-outstanding flag is set (R168). -/
def State.restOf (s : State) (i : DevIx) : Option StoredEntry :=
  if (s.dev i).outstanding then (s.dev i).stored else s.baseImage.roster[i]

/-- The route positions of the record that a pin is about, as they stand (log 13). -/
def State.routesOf (s : State) (i : DevIx) (identity : BitVec 24) : RoutePair :=
  match s.follow i identity with
  | some j => (s.dev j).routes
  | none => {}

/-- The image a command write composes when it starts (R168), with the roster part given by R8, R14, R59 and
R60: of a stored entry whose store-outstanding flag is clear, a pin or unpin changes its own route alone. An image
composed after a failed erasure can hold a relay number twice (log 43). -/
def State.commandImage (s : State) (w : CommandWrite) : Image :=
  let im := s.baseImage
  match w with
  | .enrol i e => { im with roster := im.roster.set i (some e) }
  | .remove i identity relay =>
    { im with roster := Vector.ofFn fun k =>
        if k ∈ s.removedIndices i identity then none
        else
          match relay with
          | some p => if (im.roster[k]).any (·.pins p) then (s.restOf k).map (·.dropPin p) else im.roster[k]
          | none => im.roster[k] }
  | .pin i identity p =>
    { im with roster := im.roster.set i ((s.restOf i).map (·.addPin p ((s.routesOf i identity).pin p))) }
  | .unpin i _ p => { im with roster := im.roster.set i ((s.restOf i).map (·.dropPin p)) }
  | .zone z ps => { im with zones := im.zones.set z ps }
  | .site ps => { im with site := ps }
  | .channel c ch => { im with channels := im.channels.set c ch }

/-- The indices whose stored entries a command write replaces (R168). -/
def State.commandReplaces (s : State) (w : CommandWrite) : List DevIx :=
  match w with
  | .enrol i _ => [i]
  | .remove i identity relay =>
    allDevs.filter fun k => k ∈ s.removedIndices i identity ||
      match relay with
      | some p => (s.baseImage.roster[k]).any (·.pins p)
      | none => false
  | .pin i _ _ => [i]
  | .unpin i _ _ => [i]
  | .zone _ _ => []
  | .site _ => []
  | .channel _ _ => []

/-- The image a roster write composes when it starts: the stored entry of each index of its set takes the
index's working content (R168). -/
def State.rosterImage (s : State) (ixs : List DevIx) : Image :=
  { s.baseImage with roster := Vector.ofFn fun k =>
      if k ∈ ixs then (s.dev k).stored else s.baseImage.roster[k] }

/-- The image a write composes when it starts (R168). -/
def State.composed (s : State) : WriteJob → Image
  | .command w => s.commandImage w
  | .roster ixs => s.rosterImage ixs

/-- The indices whose stored entries a write replaces: all of them when no image is in force (R168; log 33). -/
def State.replaces (s : State) (j : WriteJob) : List DevIx :=
  if s.store.inForce.isNone then allDevs
  else
    match j with
    | .command w => s.commandReplaces w
    | .roster ixs => ixs

/-- The start of a write: its image is composed, and the bank it goes into holds nothing whole until the
read-back agrees (R168, R170). -/
def State.startWrite (s : State) (j : WriteJob) : State :=
  { s with store :=
      { s.store.setBank s.store.target .spoiled with
        active := some { job := j, image := s.composed j, replaced := s.replaces j } } }

/-- The waiting requests with a request added: one waiting roster write gathers every index (R169). -/
def joinWaiting (waiting : List WriteJob) (j : WriteJob) : List WriteJob :=
  match j with
  | .command w => waiting ++ [.command w]
  | .roster ixs =>
    if waiting.any (fun x => match x with | .roster _ => true | .command _ => false) then
      waiting.map fun x =>
        match x with
        | .roster old => .roster (old ++ ixs.filter fun i => i ∉ old)
        | .command w => .command w
    else waiting ++ [.roster ixs]

/-- A write request: it starts at once when no write is in progress and none waits, and waits otherwise
(R169; log 12). -/
def State.requestWrite (s : State) (j : WriteJob) : State :=
  if s.store.active.isNone && s.store.waiting.isEmpty then s.startWrite j
  else { s with store := { s.store with waiting := joinWaiting s.store.waiting j } }

/-- The state with the store-outstanding flag of each listed index set to v. -/
def State.markOutstanding (s : State) (ixs : List DevIx) (v : Bool) : State :=
  s.mapDevs fun i d => if i ∈ ixs then { d with outstanding := v } else d

/-- A roster write requested for the given indices (R4, R169). While a restart is pending the indices are
flagged store-outstanding instead (R170 item 1). -/
def State.requestRoster (s : State) (ixs : List DevIx) : State :=
  if ixs.isEmpty then s
  else if s.restart = .idle then s.requestWrite (.roster ixs)
  else s.markOutstanding ixs true

/-- The end of the write in progress (R168). Verify passes: the written bank becomes current, the
configuration-invalid flag and the store-outstanding flags of the replaced entries are cleared. Verify
fails: the written bank is erased. -/
def State.endWrite (s : State) (verified : Bool) : State :=
  match s.store.active with
  | none => s
  | some w =>
    if verified then
      { s with store :=
          { s.store.setBank s.store.target w.image.sealed with
            current := some s.store.target, invalid := false, active := none } }.markOutstanding w.replaced false
    else { s with store := { s.store.setBank s.store.target .erased with active := none } }

/-- The response of the command that Link S executes, and the link's return to Ready (R152). -/
def State.finishCommand (s : State) (r : Reply) : State :=
  match s.portS.executing with
  | none => s
  | some (_, tag) => { s with portS := { s.portS with executing := none } }.answer .S tag r

/-- The end of a command write (R152, R157, R168). `apply` gives the working change of the command the write
belongs to; when the write in progress is another one, nothing happens. -/
def State.commandWriteEnd (s : State) (verified : Bool) (apply : CommandWrite → Option (State → State)) :
    State :=
  match s.store.active with
  | some { job := .command w, .. } =>
    match apply w with
    | none => s
    | some f =>
      if verified then (f (s.endWrite true)).finishCommand { result := .done }
      else (s.endWrite false).finishCommand { result := .storeWriteFailed }
  | _ => s

end Sys2Proof.Machine
end

