-- ==== Sys2Proof/Machine/Zones.lean ====
section
/-! DEFINITION. The Zone Table (05): members and counting (R91, R95), the roll-up (R103 to R107), latches handed by
the Condition Evaluator (R98 to R102), latch clears and standing levels (R87, R88), and changes of counting
(R96). -/

namespace Sys2Proof.Machine

/-! ## Members -/

/-- Whether a record is a member of zone z: not Vacant, not a Repeater, and its zone field names z (R91). -/
def Device.memberOf (d : Device) (z : ZoneIx) : Bool :=
  d.life != .vacant && d.kind != .repeater && d.zone == z

/-- Whether a member is counted in its zone (R95). -/
def Device.countedIn (d : Device) (r : Zone) : Bool :=
  d.life.owns && d.disabled.isEmpty && r.disabled.isEmpty && r.test.isNone

/-- Whether the entry at index i is a counted member of its zone (R95). -/
def State.counted (s : State) (i : DevIx) : Bool :=
  (s.dev i).kind != .repeater && (s.dev i).countedIn (s.zone (s.dev i).zone)

/-- Whether a record is a counted member of zone z. -/
def State.countedMember (s : State) (z : ZoneIx) (d : Device) : Bool :=
  d.memberOf z && d.countedIn (s.zone z)

/-- The members of zone z whose record satisfies p, in index order. -/
def State.members (s : State) (z : ZoneIx) (p : Device → Bool) : List DevIx :=
  allDevs.filter fun i => (s.dev i).memberOf z && p (s.dev i)

/-! ## The roll-up -/

/-- The numbers of a zone's counted members that the roll-up reads (R103, R104). -/
def State.countedWith (s : State) (z : ZoneIx) (p : Device → Bool) : Nat :=
  s.countDevs fun _ d => s.countedMember z d && p d

/-- The condition of a zone computed from its counted members by its mode (R103, R104). -/
def State.rollUp (s : State) (z : ZoneIx) : ZoneCond :=
  let latched := s.countedWith z fun d => d.cond == .fireLatched
  let latchedCallPoints := s.countedWith z fun d => d.cond == .fireLatched && d.kind == .callPoint
  let preAlarm := s.countedWith z fun d => d.cond == .preAlarm
  if !(s.zone z).disabled.isEmpty then .quiet
  else
    match (s.zone z).params.mode with
    | .single => if 1 ≤ latched then .fire else if 1 ≤ preAlarm then .preAlarm else .quiet
    | .corroborated =>
      if 2 ≤ latched || 1 ≤ latchedCallPoints then .fire
      else if latched = 1 then .alerted
      else if 1 ≤ preAlarm then .preAlarm
      else .quiet

/-- The zone record with a new condition: entering Alerted sets the first-latch time and leaving it removes
it (R107); becoming Quiet or PreAlarm removes the acknowledgement (R106). -/
def Zone.withCond (r : Zone) (c : ZoneCond) (now : Nat) : Zone :=
  { r with
    cond := c
    firstLatch := if c = .alerted then some now else none
    ack := if c = .quiet ∨ c = .preAlarm then none else r.ack }

/-- The recomputation of a zone's roll-up (R105): a computed condition that differs is taken, with its
ZoneCondition event. -/
def State.recompute (s : State) (z : ZoneIx) : State :=
  let c := s.rollUp z
  if c = (s.zone z).cond then s
  else
    (s.modZone z fun r => r.withCond c s.runClock).create (.zoneCondition z c (s.zone z).generation)

/-! ## Readings and levels -/

/-- The value a reading byte is evaluated as: measurements as they are, 254 as 250, nothing for the codes
251, 252, 253 and 255 (section 4.3). -/
def measured (r : Byte) : Option Nat :=
  if r.toNat ≤ 250 then some r.toNat else if r.toNat = 254 then some 250 else none

/-- The baseline rounded to the nearest reading unit, halves up (R73). -/
def roundedBaseline (b : Nat) : Nat := (b + 8) / 16

/-- The alarm level of a smoke reading against the baseline, or against the nominal baseline while there is
none; a negative result is taken as 0 (R73). -/
def alarmLevel (d : Device) (p : ZoneParams) (v : Nat) : Nat :=
  match d.smoke.baseline with
  | some b => v - roundedBaseline b
  | none => v - p.nominal

/-- Tpre of a zone's active profile (4.1). -/
def Zone.tpre (r : Zone) : Nat :=
  match r.profile with
  | .normal => r.params.normalTpre
  | .service => r.params.serviceTpre

/-- Tfire of a zone's active profile (4.1). -/
def Zone.tfire (r : Zone) : Nat :=
  match r.profile with
  | .normal => r.params.normalTfire
  | .service => r.params.serviceTfire

/-- The value of a device's last reading, when it is a measurement. -/
def Device.lastValue (d : Device) : Option Nat := d.lastReading.bind fun r => measured r.1

/-- The standing pre-alarm test of a device (R88). θ is the value less 40 (R83). -/
def standingTest (d : Device) (r : Zone) : Bool :=
  match d.lastValue with
  | none => false
  | some v =>
    match d.kind with
    | .smoke => r.tpre ≤ alarmLevel d r.params v
    | .heat => (r.params.tfix : Int) - r.params.preOffset ≤ (v : Int) - 40
    | .callPoint => false
    | .repeater => false

/-- The standing level that the DeviceFire event of an enabled latch carries, as its detail byte: the alarm
level for Smoke, θ + 40 (the reading) for Heat, 1 for a Call Point, and 0 when the last reading is a fault code
(R102, R133). Without a last reading: Config.levelWithoutReading (log 24). -/
def standingLevel (d : Device) (r : Zone) : Nat :=
  match d.lastReading with
  | none => Config.levelWithoutReading
  | some _ =>
    match d.lastValue with
    | none => 0
    | some v =>
      match d.kind with
      | .smoke => alarmLevel d r.params v
      | .heat => v
      | .callPoint => 1
      | .repeater => 0

/-- The verification elapsed time kept from a latch: last- less first-candidate time for Smoke, 0 for the
other kinds (R102). A Smoke record without the times: Config.elapsedWithoutTimes (log 24). -/
def keptElapsed (d : Device) : Nat :=
  match d.kind with
  | .smoke =>
    match d.verif.first, d.verif.last with
    | some a, some b => b - a
    | _, _ => Config.elapsedWithoutTimes
  | .heat | .callPoint | .repeater => 0

/-! ## Clears (R87) -/

/-- The verification clear: a Smoke record's count becomes 0 and its times absent (R87). -/
def Device.verifCleared (d : Device) : Device :=
  if d.kind = .smoke then { d with verif := {} } else d

/-- The latch clear: the condition becomes Quiet, with the verification clear (R87). -/
def Device.latchCleared (d : Device) : Device := { d.verifCleared with cond := .quiet }

/-- What a zone reset and a test start do to every member: latched members have their latch cleared, and the
other Smoke members their verification (R116 steps 1 and 2, R126 step 2). -/
def Device.resetCleared (d : Device) : Device :=
  if d.cond = .fireLatched then d.latchCleared else d.verifCleared

/-- The state with f applied to every member of zone z. -/
def State.mapMembers (s : State) (z : ZoneIx) (f : Device → Device) : State :=
  s.mapDevs fun _ d => if d.memberOf z then f d else d

/-! ## Latches (section 5.4) -/

/-- The steps of a counted latch's beginning up to its DeviceFire event: generation, site alarm count and
event (R99 steps 1 to 3, R94). -/
def State.beginLatch (s : State) (i : DevIx) (level elapsed : Nat) : State :=
  let z := (s.dev i).zone
  let g := (s.zone z).generation + 1
  let t := s.modZone z fun r => { r with generation := g }
  { t with siteCount := t.siteCount + 1 }.create (.deviceFire i z g level elapsed)

/-- The beginning of a kept latch whose member becomes counted, with its standing level (R102). -/
def State.beginKeptLatch (s : State) (i : DevIx) : State :=
  s.beginLatch i (standingLevel (s.dev i) (s.zone (s.dev i).zone)) (keptElapsed (s.dev i))

/-- A latch handed by the Condition Evaluator (R98): a test activation (R100), a disabled condition (R101) or a
counted latch (R99). -/
def State.takeLatch (s : State) (i : DevIx) (level elapsed : Nat) : State :=
  let d := s.dev i
  let r := s.zone d.zone
  if r.test.isSome then
    (s.create (.testActivation i d.zone level)).modDev i Device.latchCleared
  else if !d.disabled.isEmpty || !r.disabled.isEmpty then
    s.create (.disabledCondition i d.zone level)
  else (s.beginLatch i level elapsed).recompute d.zone

/-- A change between Quiet and PreAlarm handed by the Condition Evaluator (R98). -/
def State.takeChange (s : State) (i : DevIx) : State :=
  if s.counted i then s.recompute (s.dev i).zone else s

/-! ## Changes of counting (R96) -/

/-- A device that has become counted: a FireLatched one begins a counted latch, and the roll-up is recomputed
(R96, R102). -/
def State.deviceCounted (s : State) (i : DevIx) : State :=
  if s.counted i then
    (if (s.dev i).cond = .fireLatched then s.beginKeptLatch i else s).recompute (s.dev i).zone
  else s

/-- Members of zone z that have become counted, given in index order: each FireLatched one begins a counted
latch, and the roll-up is recomputed once after them (R96, R102). -/
def State.membersCounted (s : State) (z : ZoneIx) (ixs : List DevIx) : State :=
  ((ixs.filter fun i => (s.dev i).cond == .fireLatched && s.counted i).foldl State.beginKeptLatch s).recompute z

/-! ## Corroboration lapse (R107, R108) -/

/-- Whether the corroboration window of an Alerted zone has run out (R107). -/
def State.windowExpired (s : State) (z : ZoneIx) : Bool :=
  let r := s.zone z
  r.cond == .alerted &&
    match r.firstLatch with
    | some t => t + 4 * r.params.corrWindow ≤ s.runClock
    | none => false

/-- The lapse of a zone's corroboration (R108): the single counted latched member is cleared, to PreAlarm when
its standing test is met and to Quiet otherwise; CorroborationLapsed is created; the roll-up is recomputed. -/
def State.lapse (s : State) (z : ZoneIx) : State :=
  match s.findDev fun _ d => s.countedMember z d && d.cond == .fireLatched with
  | none => s.recompute z
  | some i =>
    let cond := if standingTest (s.dev i) (s.zone z) then Cond.preAlarm else .quiet
    ((s.modDev i fun d => { d.latchCleared with cond := cond }).create
      (.corroborationLapsed z i (s.zone z).generation)).recompute z

end Sys2Proof.Machine
end

