-- ==== Sys2Proof/Machine/Evaluate.lean ====
section
/-! DEFINITION. The Condition Evaluator (04): decode (R68 to R70), smoke calibration, drift, thresholds and verification
(R71 to R82), heat (R83 to R85), call points (R86), and the wake level (R90). An evaluation is a function of the
record, the zone and the time; `State.evaluate` takes its result into the state (R65, R67). -/

namespace Sys2Proof.Machine

/-- A record under evaluation with the events the evaluation has created so far, in order (R67). -/
structure Eval where
  d : Device
  events : List EventBody := []
  deriving DecidableEq, Repr

/-- The evaluation with one more event created. -/
def Eval.note (e : Eval) (b : EventBody) : Eval := { e with events := e.events ++ [b] }

/-- The outcome of an evaluation: the record, the events, and the latch detail when the device entered
FireLatched: level and elapsed time of verification (R67). -/
structure Evaluated where
  d : Device
  events : List EventBody
  latch : Option (Nat × Nat)
  deriving DecidableEq, Repr

/-- What the evaluator takes from outside the record: index, time, the zone and the hold-off in seconds (R65). -/
structure Setting where
  i : DevIx
  now : Nat
  zone : Zone
  holdOff : Nat
  deriving DecidableEq, Repr

/-! ## Decode (section 4.3) -/

/-- The fault cause of a fault code (section 4.3). -/
def faultOf (r : Byte) : Option Cause :=
  match r.toNat with
  | 251 => some .sensorFault
  | 252 => some .headRemoved
  | 255 => some .selfTestFailed
  | _ => none

/-- A fault code: its cause is added, PreAlarm drops to Quiet, and a Smoke record that is not FireLatched loses
its verification (R69). -/
def Eval.faultCode (e : Eval) (x : Setting) (r : Byte) (c : Cause) : Eval where
  d := { e.d with
    lastReading := some (r, x.now)
    faults := e.d.faults.put c true
    cond := if e.d.cond = .preAlarm then .quiet else e.d.cond
    verif := if e.d.kind = .smoke ∧ e.d.cond ≠ .fireLatched then {} else e.d.verif }
  events := if e.d.faults.has c then e.events else e.events ++ [.deviceFault x.i c]

/-- The removal of a cause with its DeviceRestored event, when the cause is present (R64, R70, R76). -/
def Eval.restore (e : Eval) (x : Setting) (c : Cause) : Eval :=
  if e.d.faults.has c then
    { d := { e.d with faults := e.d.faults.put c false }, events := e.events ++ [.deviceRestored x.i (.cause c)] }
  else e

/-- The addition of a cause with its DeviceFault event, when the cause is absent (R64, R71, R76). -/
def Eval.fail (e : Eval) (x : Setting) (c : Cause) : Eval :=
  if e.d.faults.has c then e
  else { d := { e.d with faults := e.d.faults.put c true }, events := e.events ++ [.deviceFault x.i c] }

/-- A measurement: the last reading is taken and the three reading causes are removed, in order (R68, R70). -/
def Eval.measurement (e : Eval) (x : Setting) (r : Byte) : Eval :=
  (((({ e with d := { e.d with lastReading := some (r, x.now) } }).restore x .sensorFault).restore x
    .headRemoved).restore x .selfTestFailed)

/-! ## Smoke (sections 4.4 to 4.8) -/

/-- Contaminated decided by the hysteresis of R76 against the limit 16L. -/
def Eval.contaminated (e : Eval) (x : Setting) (b limit : Nat) : Eval :=
  if b = limit then e.fail x .contaminated
  else if b + 32 < limit then e.restore x .contaminated
  else e

/-- The calibration stage of a Calibrating Smoke entry (R71). -/
def Eval.calibrate (e : Eval) (x : Setting) (v : Nat) : Eval :=
  if e.d.life ≠ .calibrating then e
  else
    let count := e.d.smoke.calCount + 1
    let sum := e.d.smoke.calSum + v
    if count < 8 then
      { e with d := { e.d with smoke := { e.d.smoke with calCount := count, calSum := sum } } }
    else
      let b := clamp 0 (16 * x.zone.params.compLimit) (2 * sum)
      let t : Eval := { e with d := { e.d with
        life := .supervised
        smoke := { baseline := some b, calCount := count, calSum := sum, driftSum := 0, driftCount := 0 } } }
      if b = 16 * x.zone.params.compLimit then t.fail x .contaminated else t

/-- The smoke state and baseline after a drift term has been added and, at the 64th, the step taken; the
baseline is clamped to 0 to 16L (R74, R75). -/
def SmokeState.drifted (m : SmokeState) (b v limit : Nat) : SmokeState :=
  let sum := m.driftSum + (16 * (v : Int) - b)
  let n := m.driftCount + 1
  if n < 64 then
    { m with baseline := some (clamp 0 limit b), driftSum := sum, driftCount := n }
  else
    let step := clampInt (-2) 2 (sum.tdiv 64)
    { m with baseline := some (clampInt 0 limit (b + step)).toNat, driftSum := 0, driftCount := 0 }

/-- The drift tracking stage: for a record that was Supervised and Quiet when the evaluation began (`before`),
the term, the step and the Contaminated decision (R74 to R76). -/
def Eval.drift (e : Eval) (x : Setting) (before : Device) (v : Nat) : Eval :=
  match before.smoke.baseline with
  | none => e
  | some b =>
    if before.life = .supervised ∧ before.cond = .quiet then
      let limit := 16 * x.zone.params.compLimit
      let m := e.d.smoke.drifted b v limit
      ({ e with d := { e.d with smoke := m } }).contaminated x (m.baseline.getD 0) limit
    else e

/-- The change from Quiet to PreAlarm with its event, subject to the hold-off (R79). The level is the detail
byte of the event. -/
def Eval.enterPreAlarm (e : Eval) (x : Setting) (level : Nat) : Eval :=
  let t : Eval := { e with d := { e.d with cond := .preAlarm } }
  let due := match e.d.lastPreAlarm with
    | none => true
    | some p => p + 4 * x.holdOff ≤ x.now
  if due then
    { d := { t.d with lastPreAlarm := some x.now }, events := t.events ++ [.preAlarm x.i level] }
  else t

/-- The threshold stage of a smoke evaluation of a record that is not FireLatched (R78). -/
def Eval.thresholds (e : Eval) (x : Setting) (a : Nat) : Eval :=
  match e.d.cond with
  | .quiet => if x.zone.tpre ≤ a then e.enterPreAlarm x a else e
  | .preAlarm => if a + 2 < x.zone.tpre then { e with d := { e.d with cond := .quiet } } else e
  | .fireLatched => e

/-- The verification state after an evaluation (R81); the window is in quarters. -/
def Verification.after (m : Verification) (candidate : Bool) (now window : Nat) : Verification :=
  if !candidate then {}
  else
    match m.count, m.last with
    | n + 1, some t =>
      if now - t ≤ window then { m with count := min 4 (n + 2), last := some now }
      else { count := 1, first := some now, last := some now }
    | _, _ => { count := 1, first := some now, last := some now }

/-- The threshold and verification stages of a smoke record that is not FireLatched, and the latch they may
make (R78, R81, R82). The elapsed time runs from the first candidate, a count begun under a greater V included
(log 42). -/
def Eval.smokeDecide (e : Eval) (x : Setting) (a : Nat) : Evaluated :=
  let t := e.thresholds x a
  let m := t.d.verif.after (x.zone.tfire ≤ a) x.now (4 * x.zone.params.verifWindow)
  if x.zone.tfire ≤ a ∧ x.zone.params.verifications ≤ m.count then
    { d := { t.d with verif := m, cond := .fireLatched }, events := t.events,
      latch := some (a, x.now - m.first.getD x.now) }
  else { d := { t.d with verif := m }, events := t.events, latch := none }

/-- A smoke evaluation of a measured value v, after the decode (R67, R71 to R82). A FireLatched record takes
calibration alone (R80). -/
def Eval.smoke (e : Eval) (x : Setting) (v : Nat) : Evaluated :=
  let c := e.calibrate x v
  let a := alarmLevel c.d x.zone.params v
  if e.d.cond = .fireLatched then { d := c.d, events := c.events, latch := none }
  else (c.drift x e.d v).smokeDecide x a

/-! ## Heat (section 4.9) -/

/-- The temperature and rate stage for temperature θ (R83). -/
def HeatState.after (m : HeatState) (θ : Int) (now : Nat) : HeatState :=
  match m.reference with
  | none => { m with reference := some (θ, now) }
  | some (θref, t) =>
    if 240 ≤ now - t then
      { reference := some (θ, now)
        rate := some (clampInt (-250) 250 (((θ - θref) * 240).tdiv ((now - t : Nat) : Int))) }
    else m

/-- The pre-alarm test of a Heat record (R84). -/
def Eval.heatPreAlarm (e : Eval) (x : Setting) (v : Nat) : Eval :=
  let θ : Int := (v : Int) - 40
  let pre : Int := (x.zone.params.tfix : Int) - x.zone.params.preOffset
  match e.d.cond with
  | .quiet => if pre ≤ θ then e.enterPreAlarm x v else e
  | .preAlarm => if θ < pre - 4 then { e with d := { e.d with cond := .quiet } } else e
  | .fireLatched => e

/-- Whether a Heat record is a fire candidate at temperature θ (R85). -/
def heatCandidate (m : HeatState) (p : ZoneParams) (θ : Int) : Bool :=
  (p.tfix : Int) ≤ θ ||
    match m.rate with
    | some ρ => (p.rrise : Int) ≤ ρ
    | none => false

/-- A heat evaluation of a measured value v, after the decode (R80, R83 to R85). The latch level is the detail
byte θ + 40 (R133). -/
def Eval.heat (e : Eval) (x : Setting) (v : Nat) : Evaluated :=
  let θ : Int := (v : Int) - 40
  let m := e.d.heat.after θ x.now
  let t : Eval := { e with d := { e.d with heat := m } }
  if e.d.cond = .fireLatched then { d := t.d, events := t.events, latch := none }
  else
    let u := t.heatPreAlarm x v
    if heatCandidate m x.zone.params θ then
      { d := { u.d with cond := .fireLatched }, events := u.events, latch := some (v, 0) }
    else { d := u.d, events := u.events, latch := none }

/-! ## Call points (section 4.10) -/

/-- A call point evaluation of a measured value v, after the decode (R86). -/
def Eval.callPoint (e : Eval) (v : Nat) : Evaluated :=
  if 1 ≤ v ∧ e.d.cond = .quiet then
    { d := { e.d with cond := .fireLatched }, events := e.events, latch := some (1, 0) }
  else { d := e.d, events := e.events, latch := none }

/-! ## The evaluation (R65, R67) -/

/-- The evaluation of a new frame's reading byte for a record (R67, R68). A Repeater is not evaluated. -/
def evaluation (x : Setting) (d : Device) (r : Byte) : Evaluated :=
  let e : Eval := { d := d }
  if d.kind = .repeater then { d := d, events := [], latch := none }
  else
    match faultOf r with
    | some c => let t := e.faultCode x r c; { d := t.d, events := t.events, latch := none }
    | none =>
      match measured r with
      | none => { d := d, events := [], latch := none }
      | some v =>
        let t := e.measurement x r
        match d.kind with
        | .smoke => t.smoke x v
        | .heat => t.heat x v
        | .callPoint => t.callPoint v
        | .repeater => { d := d, events := [], latch := none }

/-- The setting of an evaluation of the entry at index i made now (R65). -/
def State.setting (s : State) (i : DevIx) : Setting where
  i := i
  now := s.runClock
  zone := s.zone (s.dev i).zone
  holdOff := s.site.holdOff

/-- An evaluation taken into the state: the record, its events, and the change of condition handed to the Zone
Table (R67, R98). -/
def State.evaluate (s : State) (i : DevIx) (r : Byte) : State :=
  let e := evaluation (s.setting i) (s.dev i) r
  let t := (s.setDev i e.d).createAll e.events
  match e.latch with
  | some (level, elapsed) => t.takeLatch i level elapsed
  | none => if e.d.cond = (s.dev i).cond then t else t.takeChange i

/-! ## Wake level (R90) -/

/-- The wake level of a device of a kind with a smoke baseline in a zone (R90). -/
def wakeLevel (d : Device) (r : Zone) : Nat :=
  match d.kind with
  | .smoke =>
    match d.smoke.baseline with
    | some b => min 250 (roundedBaseline b + r.tpre)
    | none => min 250 (r.params.nominal + r.tpre)
  | .heat => (clampInt 0 250 ((r.params.tfix : Int) - r.params.preOffset + 40)).toNat
  | .callPoint => 1
  | .repeater => 255

/-- The wake level of the entry at index i as it and its zone stand (R90). -/
def State.wake (s : State) (i : DevIx) : Nat := wakeLevel (s.dev i) (s.zone (s.dev i).zone)

end Sys2Proof.Machine
end

