-- ==== Sys2Proof/Machine/Supervise.lean ====
section
/-! DEFINITION. Supervision (03): what an accepted frame does to its entry (R12, R13, R47, R62, R64), the slot close
(R48, R49, R57), the Unsupervised cause (R52, R53), the timing correction (R63) and the miss limit (R51). -/

namespace Sys2Proof.Machine

/-! ## Accepted frames -/

/-- The centre tick of the receive window of a path (R25). -/
def windowCentre (p : Path) : Int := if p = 0 then 655 else 3277

/-- Whether an arrival tick lies in the receive window of a path, both ends included (R25, R34 test 3). -/
def inWindow (p : Path) (arrival : Fin 8192) : Bool :=
  if p = 0 then 175 ≤ arrival.val && arrival.val ≤ 1135 else 2797 ≤ arrival.val && arrival.val ≤ 3757

/-- Whether an accepted frame is a repeat (R12). -/
def Device.isRepeat (d : Device) (seq : Fin 16) : Bool := d.lastSeq == some seq

/-- The state a Missing entry returns to (R6): Calibrating for a Smoke entry whose calibration is incomplete,
Supervised otherwise. -/
def Device.restoredLife (d : Device) : Life :=
  if d.kind = .smoke ∧ d.smoke.baseline = none then .calibrating else .supervised

/-- Step 1 of R47: the restoration of a Missing entry. -/
def Eval.unmiss (e : Eval) (x : Setting) : Eval :=
  if e.d.life = .missing then
    { d := { e.d with life := e.d.restoredLife, missCount := 0 },
      events := e.events ++ [.deviceRestored x.i .missing] }
  else e

/-- Step 4 of R47: the battery class of a new frame (R64). -/
def Eval.batteryClass (e : Eval) (x : Setting) (b : Fin 8) : Eval :=
  let t : Eval := { e with d := { e.d with battery := some b } }
  if b.val ≤ 1 then t.fail x .lowBattery
  else if 3 ≤ b.val then t.restore x .lowBattery
  else t

/-- Calibration of a Heat, Call Point or Repeater entry completes on its first accepted frame (R5). -/
def Device.calibratedByFrame (d : Device) : Device :=
  if d.life = .calibrating ∧ d.kind ≠ .smoke then { d with life := .supervised } else d

/-- What the Roster and supervision do with the frame of an entry (R12, R47, R5): classification, restoration,
heard-since-close flag, timing offset, battery class and completion of calibration. -/
def frameTaken (x : Setting) (d : Device) (f : Sample) (arrival : Fin 8192) : Eval :=
  let e := ({ d := d } : Eval).unmiss x
  let t : Eval := { e with d := { e.d with
    heard := true, offset := some ((arrival.val : Int) - windowCentre f.path) } }
  let u : Eval :=
    if d.isRepeat f.seq then t
    else ({ t with d := { t.d with lastSeq := some f.seq } } : Eval).batteryClass x f.battery
  { u with d := u.d.calibratedByFrame }

/-- The frame of the entry at index i taken by the Roster and supervision, and its evaluation when it is new and
of an evaluated kind (R36, R47, R65). -/
def State.acceptFrame (s : State) (i : DevIx) (f : Sample) (arrival : Fin 8192) : State :=
  let e := frameTaken (s.setting i) (s.dev i) f arrival
  let t := (s.setDev i e.d).createAll e.events
  if (s.dev i).isRepeat f.seq || (s.dev i).kind == .repeater then t else t.evaluate i f.reading

/-- The timing correction an acknowledgement carries (R63). -/
def timingCorrection (d : Device) : Int := clampInt (-240) 240 (-(d.offset.getD 0))

/-! ## The slot close -/

/-- The route entries a device has. -/
def RoutePair.entries (x : RoutePair) : List Route := x.first.toList ++ x.second.toList

/-- The relay-lost flag of a DeviceMissing event (R49). -/
def State.relayLost (s : State) (d : Device) : Bool :=
  !d.routes.entries.isEmpty &&
    d.routes.entries.all fun r =>
      r.path != 0 && (s.findDev fun _ k => k.isRelay r.path (· == .missing)).isSome

/-- A counted slot close before route aging (R48). -/
def closed (i : DevIx) (limit : Nat) (relayLost : Bool) (d : Device) : Eval :=
  if d.heard then { d := { d with heard := false, missCount := 0 } }
  else if d.life = .calibrating ∨ d.life = .supervised then
    let n := min (d.missCount + 1) limit
    if n = limit then
      { d := { d with missCount := n, life := .missing }, events := [.deviceMissing i relayLost] }
    else { d := { d with missCount := n } }
  else { d := d }

/-- A slot close handed to supervision (R48), with the route aging that follows it (R57). The relay-lost flag is
decided from the states before the close (log 40). -/
def State.slotClose (s : State) (i : DevIx) : State :=
  let e := closed i s.site.missLimit (s.relayLost (s.dev i)) (s.dev i)
  (s.setDev i { e.d with routes := e.d.routes.aged s.site.routeAge }).createAll e.events

/-! ## Cell state and the Unsupervised cause -/

/-- A cell in Running or Stopping is operating (R27). -/
def CellState.operating : CellState → Bool
  | .running | .stopping => true
  | .absent | .off | .failed => false

/-- The Unsupervised cause of the entry at index i brought into line with its home cell, with its event (R52,
R53). -/
def State.alignUnsupervised (s : State) (i : DevIx) : State :=
  let x := s.setting i
  let e : Eval :=
    if !(s.dev i).life.owns then { d := s.dev i }
    else if (s.cell (homeCell i)).state.operating then ({ d := s.dev i } : Eval).restore x .unsupervised
    else ({ d := s.dev i } : Eval).fail x .unsupervised
  (s.setDev i e.d).createAll e.events

/-- A cell-state change handed to supervision: the entries homed in the cell in index order (R52). -/
def State.cellStateChanged (s : State) (c : CellIx) : State :=
  (allDevs.filter fun i => homeCell i = c).foldl State.alignUnsupervised s

/-! ## Site parameters -/

/-- A new site parameter set in force: every miss count above the new limit is set to it (R51, R159). -/
def State.withSite (s : State) (p : SiteParams) : State :=
  { s with site := p }.mapDevs fun _ d => { d with missCount := min d.missCount p.missLimit }

end Sys2Proof.Machine
end

