-- ==== Sys2Proof/Machine/Radio.lean ====
section
/-! DEFINITION. Radio cells and the timebase (02): copy acceptance (R33 to R37), downlinks (R38 to R40, R9, R10), the
cycle slot record (R41 to R43), beacons and cell states at boundaries (R28, R32), move transfers (R19), and the
meanings of RECEIVED_COPY, DOWNLINK_ASSEMBLY, TRANSMIT_CONFIRM, INTERVAL_END, SUPERFRAME_BOUNDARY and
CYCLE_BOUNDARY. -/

namespace Sys2Proof.Machine

/-! ## The schedule (R24) -/

/-- The use of an interval (R24). -/
inductive IntervalUse where
  | beacon | report (s : Fin 6) | enrolment | alarm
  deriving DecidableEq, Repr

/-- The use of interval k of a superframe (R24). -/
def intervalUse (k : Fin 12) : IntervalUse :=
  if k.val = 0 then .beacon
  else if h : k.val ≤ 6 then .report ⟨k.val - 1, by omega⟩
  else if k.val = 7 then .enrolment
  else .alarm

/-- The home slot of report slot s in phase p: 6p + s (R24). -/
def reportSlot (p : Fin 8) (s : Fin 6) : Slot := ⟨6 * p.val + s.val, by omega⟩

/-- The home slot whose report interval is in progress, if one is (R24). -/
def Timebase.slot (t : Timebase) : Option Slot :=
  match intervalUse t.interval with
  | .report s => some (reportSlot t.phase s)
  | .beacon | .enrolment | .alarm => none

/-- The tick of downlink assembly (R25). -/
def assemblyTick : Fin 8192 := 3758

/-- The tick of downlink sending (R25). -/
def downlinkTick : Fin 8192 := 5898

/-- The tick of beacon sending in interval 0 (R25). -/
def beaconTick : Fin 8192 := 655

/-- The tick moved forward to t, the tick a step is taken at (log 3). -/
def State.atTick (s : State) (t : Fin 8192) : State :=
  { s with time := { s.time with tick := max s.time.tick t } }

/-! ## Cell helpers -/

/-- A counter that saturates at 65535 (R44). -/
def bump (n : Nat) : Nat := min 65535 (n + 1)

/-- One more integrity failure in cell c (R44). -/
def State.countIntegrity (s : State) (c : CellIx) : State :=
  s.modCell c fun r => { r with stats := { r.stats with integrity := bump r.stats.integrity } }

/-- One more window failure in cell c (R44). -/
def State.countWindow (s : State) (c : CellIx) : State :=
  s.modCell c fun r => { r with stats := { r.stats with window := bump r.stats.window } }

/-- One more foreign identity in cell c (R44). -/
def State.countForeign (s : State) (c : CellIx) : State :=
  s.modCell c fun r => { r with stats := { r.stats with foreignId := bump r.stats.foreignId } }

/-- One more unmatched enrolment in cell c (R10, R44). -/
def State.countUnmatched (s : State) (c : CellIx) : State :=
  s.modCell c fun r => { r with stats := { r.stats with unmatched := bump r.stats.unmatched } }

/-- The cycle slot record entry of a cell's slot set to v. -/
def State.setSlot (s : State) (c : CellIx) (h : Slot) (v : SlotEntry) : State :=
  s.modCell c fun r => { r with slots := r.slots.set h v }

/-- A transmit request of cell c for a tick of interval k, on the cell's channel (R45). -/
def State.transmit (s : State) (c : CellIx) (k : Fin 12) (tick : Fin 8192) (bytes : List Byte) : State :=
  s.modCell c fun r =>
    { r with lastTx := some { interval := k, tick := tick, channel := r.channel, bytes := bytes } }

/-! ## Copy acceptance (R34 to R37) -/

/-- Test 2: whether the frame kind belongs to the interval's use (R24, R34). -/
def Uplink.fits (u : Uplink) (k : Fin 12) : Bool :=
  match u, intervalUse k with
  | .report _, .report _ => true
  | .alarm _, .alarm => true
  | .enrol _ _ _, .enrolment => true
  | _, _ => false

/-- Test 4: a path of 1 to 15 is the relay number of a Repeater entry that is Calibrating, Supervised or
Missing (R34). -/
def State.relayKnown (s : State) (p : Path) : Bool :=
  p == 0 || (s.findDev fun _ d => d.isRelay p Life.owns).isSome

/-- Test 5 in a report interval: the owner of slot h of cell c, by its identity (R35). -/
def State.matchReport (s : State) (c : CellIx) (h : Slot) (identity : BitVec 24) : Option (DevIx × SlotKind) :=
  let i := slotIndex c h
  if (s.dev i).life.owns ∧ (s.dev i).identity = identity then some (i, .home)
  else
    (s.findDev fun _ d => d.shadows i && d.identity == identity).map fun k => (k, .shadow)

/-- Whether a record holds a shadow slot homed in cell c (R35). -/
def Device.shadowIn (d : Device) (c : CellIx) : Bool := d.shadow.any fun k => homeCell k == c

/-- Test 5 in an alarm interval: an owning entry of the identity that holds a shadow slot homed in cell c, or is
homed in it (R35). One that is both is matched in its shadow slot, so that its acknowledgement carries the
reassignment (R20, R21; log 16). -/
def State.matchAlarm (s : State) (c : CellIx) (identity : BitVec 24) : Option (DevIx × SlotKind) :=
  match s.findDev fun _ d => d.life.owns && d.identity == identity && d.shadowIn c with
  | some i => some (i, .shadow)
  | none =>
    (s.findDev fun i d => d.life.owns && d.identity == identity && homeCell i == c).map fun i => (i, .home)

/-- Test 5 of R34 for an uplink frame in the interval in progress. -/
def State.matchCopy (s : State) (c : CellIx) (u : Uplink) : Option (DevIx × SlotKind) :=
  match u with
  | .report f =>
    match s.time.slot with
    | some h => s.matchReport c h f.identity
    | none => none
  | .alarm f => s.matchAlarm c f.identity
  | .enrol _ _ _ => none

/-- The frame that an identity has in the interval, on the frame list of whichever cell accepted it first: a device has
one frame per interval (R12, R36, R89; log 44). -/
def State.frameOf (s : State) (identity : BitVec 24) : Option FrameEntry :=
  (allCells.flatMap fun c => (s.cell c).frames).find? fun f => f.identity = identity

/-- Test 6: whether a Report or Alarm copy conflicts with the frame of its identity in the interval (R36). -/
def State.conflicts (s : State) (f : Sample) : Bool := (s.frameOf f.identity).any fun g => g.seq ≠ f.seq

/-- Whether an Enrol copy of the identity was already accepted in the interval (R37). -/
def Cell.enrolSeen (r : Cell) (identity : BitVec 24) : Bool :=
  r.work.any fun w => w.identity = identity ∧ w.outcome = .accepted

/-- Tests 2 to 6 of R34 with the handling of R37 for a repeated Enrol identity. -/
def State.copyOutcome (s : State) (c : CellIx) (u : Uplink) (arrival : Fin 8192) : CopyOutcome :=
  if !u.fits s.time.interval then .windowFailure
  else if !inWindow u.path arrival then .windowFailure
  else if !s.relayKnown u.path then .foreignIdentity
  else
    match u with
    | .enrol identity _ _ => if (s.cell c).enrolSeen identity then .discarded else .accepted
    | .report f =>
      if (s.matchCopy c u).isNone then .foreignIdentity
      else if s.conflicts f then .foreignIdentity
      else .accepted
    | .alarm f =>
      if (s.matchCopy c u).isNone then .foreignIdentity
      else if s.conflicts f then .foreignIdentity
      else .accepted

/-- An accepted Report or Alarm copy handed on (R36): the Route Table learns from it, and the first copy of an
identity in the interval goes on this cell's frame list, to the Roster, supervision and the Evaluator. -/
def State.handFrame (s : State) (c : CellIx) (i : DevIx) (via : SlotKind) (f : Sample) (x : Copy) : State :=
  let t := s.modDev i fun d => { d with routes := d.routes.learn f.path x.level.val }
  if (s.frameOf f.identity).isSome then t
  else
    (t.modCell c fun r =>
      { r with frames := r.frames ++ [{ index := i, identity := f.identity, seq := f.seq, via := via }] }).acceptFrame
      i f x.arrival

/-- A report taken as its entry's frame marks its slot Heard (R42), and one accepted in the home slot releases the
entry's shadow slot (R20). -/
def State.reportMarks (s : State) (c : CellIx) (i : DevIx) (via : SlotKind) : State :=
  let t := match s.time.slot with
    | some h => s.setSlot c h .heard
    | none => s
  match via with
  | .home => t.modDev i fun d => { d with shadow := none }
  | .shadow => t

/-- Whether an entry is one that an enrolment request of its identity grants or re-grants: Enrolling, or granted,
Calibrating and without a last sequence (R9, R10). -/
def Device.grantable (d : Device) : Bool :=
  d.life == .enrolling || (d.life == .calibrating && d.granted && d.lastSeq.isNone)

/-- The Roster's handling of an accepted Enrol copy (R9, R10, R37). The first of the interval takes the
downlink claim, with the entry to grant when its kind agrees. -/
def State.handEnrol (s : State) (c : CellIx) (identity : BitVec 24) (kind : Byte) (p : Path) : State :=
  let isFirst := (s.cell c).claim.isNone
  let claim (g : Option DevIx) (t : State) : State :=
    if isFirst then
      t.modCell c fun r => { r with claim := some { identity := identity, kind := kind, path := p, grant := g } }
    else t
  match s.holder identity with
  | some i =>
    if (s.dev i).grantable then
      if isFirst then
        if kind.toNat = (s.dev i).kind.code then claim (some i) s
        else (claim none (s.countUnmatched c)).create (.enrolMismatch i kind)
      else s
    else claim none (s.countUnmatched c)
  | none => claim none (s.countUnmatched c)

/-- The counter of a failed test (R34). -/
def State.countOutcome (s : State) (c : CellIx) : CopyOutcome → State
  | .windowFailure => s.countWindow c
  | .foreignIdentity => s.countForeign c
  | .accepted => s
  | .discarded => s

/-- The handling of an accepted copy (R36, R37): a later copy of a report goes to the Route Table alone. -/
def State.handCopy (s : State) (c : CellIx) (u : Uplink) (x : Copy) : State :=
  match u with
  | .enrol identity kind p => s.handEnrol c identity kind p
  | .report f =>
    match s.matchCopy c u with
    | some (i, via) =>
      let t := s.handFrame c i via f x
      if (s.frameOf f.identity).isSome then t else t.reportMarks c i via
    | none => s
  | .alarm f =>
    match s.matchCopy c u with
    | some (i, via) => s.handFrame c i via f x
    | none => s

/-- The examination of a copy that passed test 1 (R33, R34): it is handed on or counted, and goes onto the
interval work list. -/
def State.examine (s : State) (c : CellIx) (u : Uplink) (x : Copy) : State :=
  let o := s.copyOutcome c u x.arrival
  let t := if o = .accepted then s.handCopy c u x else s.countOutcome c o
  t.modCell c fun r => { r with work := r.work ++ [{ path := u.path, identity := u.identity, outcome := o }] }

/-- A Received Copy taken by cell c (R33). -/
def State.receiveCopy (s : State) (c : CellIx) (x : Copy) : State :=
  let t := s.atTick x.taken
  let r := t.cell c
  if !r.state.operating || r.deaf then t
  else if assemblyTick ≤ t.time.tick ∨ t.time.interval = 0 then t.countWindow c
  else
    match (if x.good then Uplink.parse x.bytes else none) with
    | none => t.countIntegrity c
    | some u =>
      if 3 ≤ r.work.length ∨ r.work.any (fun w => w.path = u.path) then t
      else t.examine c u x

/-! ## The downlink (section 2.4) -/

/-- The place of an index as a reassignment names it: home cell, that cell's channel now and home slot (R40). -/
def State.place (s : State) (j : DevIx) : Reassignment where
  cell := homeCell j
  channel := (s.cell (homeCell j)).channel
  slot := homeSlot j

/-- The reassignment of an acknowledgement to a frame (R40). -/
def State.reassignment (s : State) (f : FrameEntry) : Option Reassignment :=
  match (s.dev f.index).move with
  | some m => some (s.place m.target)
  | none => if f.via = .shadow then some (s.place f.index) else none

/-- A Pending move becomes Announced (R18). -/
def Device.announced (d : Device) : Device :=
  { d with move := d.move.map fun m => { m with stage := .announced } }

/-- The acknowledgement frame for a frame of the frame list, from the values its owners hold now (R39). -/
def State.acknowledgement (s : State) (f : FrameEntry) : List Byte :=
  let d := s.dev f.index
  ackBytes d.identity f.seq (timingCorrection d) (s.wake f.index)
    (d.cond == .fireLatched && d.kind != .repeater) (s.reassignment f) d.routes.preferred

/-- The acknowledgement of a frame handed to the transceiver (R38, R39, R40): none when the entry has left its
owning state since. -/
def State.acknowledge (s : State) (c : CellIx) (f : FrameEntry) : State :=
  if (s.dev f.index).life.owns ∧ (s.dev f.index).identity = f.identity then
    (s.transmit c s.time.interval downlinkTick (s.acknowledgement f)).modDev f.index Device.announced
  else s

/-- The grant frame for the entry at index i (R9). -/
def State.grantFrame (s : State) (i : DevIx) (p : Path) : List Byte :=
  grantBytes (s.dev i).identity (homeCell i) (s.cell (homeCell i)).channel (homeSlot i) (s.wake i) p

/-- The effect of a grant on an Enrolling entry (R9, R4, R41, R53). -/
def State.granted (s : State) (c : CellIx) (i : DevIx) : State :=
  let t := s.modDev i fun d => { d with life := .calibrating, granted := true, deadline := none }
  (((t.requestRoster [i]).create (.deviceEnrolled i c)).setSlot (homeCell i) (homeSlot i)
    .unowned).alignUnsupervised i

/-- The downlink of an enrolment interval (R9, R10, R37): a grant, a re-grant, or none. The entry is looked at
again, since it may have changed since the request was accepted (R11; log 15); its kind is not compared again with the
one the request carried, also when the index has been enrolled anew under the same identity (log 15). -/
def State.grantDownlink (s : State) (c : CellIx) (q : Claim) : State :=
  match q.grant with
  | none => s
  | some i =>
    if (s.dev i).identity = q.identity ∧ (s.dev i).grantable then
      let t := s.transmit c s.time.interval downlinkTick (s.grantFrame i q.path)
      if (s.dev i).life = .enrolling then t.granted c i else t
    else s.countUnmatched c

/-- Downlink assembly of cell c in the interval in progress (R38). -/
def State.assemble (s : State) (c : CellIx) : State :=
  if s.time.interval = 0 ∨ !(s.cell c).state.operating ∨ (s.cell c).assembled then s
  else
    let t := (s.atTick assemblyTick).modCell c fun r => { r with assembled := true }
    match intervalUse t.time.interval with
    | .enrolment =>
      match (t.cell c).claim with
      | some q => t.grantDownlink c q
      | none => t
    | .report _ | .alarm =>
      match (t.cell c).frames with
      | f :: _ => t.acknowledge c f
      | [] => t
    | .beacon => t

/-! ## Beacons and confirms (R28) -/

/-- Whether at least one roster entry is Enrolling (R28). -/
def State.enrolmentOpen (s : State) : Bool := (s.findDev fun _ d => d.life == .enrolling).isSome

/-- The beacon of a cell assembled and requested, when the cell is Running, Stopping or Failed (R28). The
beacon-confirmed flag of a cell that requests none keeps its value (log 39). -/
def State.requestBeacon (s : State) (c : CellIx) : State :=
  let r := s.cell c
  if r.state.operating || r.state == .failed then
    (s.transmit c 0 beaconTick (beaconBytes c s.time.phase s.time.cycle s.enrolmentOpen (r.state == .stopping))).modCell c
      fun r => { r with beaconConfirmed := false, beaconRequested := true }
  else s.modCell c fun r => { r with beaconRequested := false }

/-- Whether a confirm names the current superframe's beacon of a cell that requested it (R28, R45; log 8). -/
def State.confirmsBeacon (s : State) (c : CellIx) (t : TxName) : Bool :=
  t.interval == 0 && t.tick == beaconTick && t.phase == s.time.phase && t.cycle == s.time.cycle &&
    (s.cell c).beaconRequested && !s.time.superframeDue

/-- A Transmit Confirm taken by cell c (R28, R40, R45). A Failed cell returns to Running, without reception in
the interval already begun. -/
def State.confirm (s : State) (c : CellIx) (t : TxName) : State :=
  if (s.cell c).state = .absent ∨ !s.confirmsBeacon c t then s
  else if (s.cell c).state = .failed then
    (s.modCell c fun r =>
      { r with state := .running, unconfirmed := 0, beaconConfirmed := true, deaf := true }).cellStateChanged c
  else s.modCell c fun r => { r with beaconConfirmed := true }

/-- The end of a superframe for cell c (R28, R32): the beacon's flag is taken, a Stopping cell becomes Off, and an
Off cell whose start is pending becomes Running; each change to or from operation is handed to supervision. -/
def State.endSuperframe (s : State) (c : CellIx) : State :=
  let r := s.cell c
  match r.state with
  | .running =>
    if r.beaconConfirmed then s.setCell c { r with unconfirmed := 0 }
    else if r.unconfirmed + 1 < 2 then s.setCell c { r with unconfirmed := r.unconfirmed + 1 }
    else (s.setCell c { r with state := .failed, unconfirmed := 2 }).cellStateChanged c
  | .stopping => (s.setCell c { r with state := .off, unconfirmed := 0 }).cellStateChanged c
  | .off =>
    if r.startPending then
      (s.setCell c { r with state := .running, startPending := false, unconfirmed := 0 }).cellStateChanged c
    else s
  | .failed => s
  | .absent => s

/-! ## The cycle slot record (section 2.5) -/

/-- Whether slot h of cell c is owned, as a home slot or as a shadow slot of an owning entry (R1, R41). -/
def State.slotOwned (s : State) (c : CellIx) (h : Slot) : Bool :=
  (s.dev (slotIndex c h)).life.owns || (s.shadowHolder (slotIndex c h)).isSome

/-- The cycle slot record of cell c prepared from the ownership as it stands (R41). -/
def State.prepareSlots (s : State) (c : CellIx) : State :=
  if (s.cell c).state = .absent then s
  else
    s.modCell c fun r =>
      { r with slots := Vector.ofFn fun h => if s.slotOwned c h then SlotEntry.expecting else .unowned }

/-- The end of a report interval for cell c (R43): an Expecting entry becomes Missed, and a Heard or Missed slot
owned as a home slot is closed. -/
def State.closeSlot (s : State) (c : CellIx) (h : Slot) : State :=
  if !(s.cell c).state.operating then s
  else
    let v := (s.cell c).slots[h]
    let t := if v = .expecting then s.setSlot c h .missed else s
    if (s.dev (slotIndex c h)).life.owns ∧ v ≠ .unowned then t.slotClose (slotIndex c h) else t

/-! ## Time (R23) -/

/-- The timebase one interval on, with its carries (R23). -/
def Timebase.next (t : Timebase) : Timebase :=
  if t.interval = 11 then
    { t with
      tick := 0
      interval := 0
      phase := t.phase + 1
      cycle := if t.phase = 7 then t.cycle + 1 else t.cycle
      superframeDue := true
      cycleDue := t.cycleDue || t.phase == 7 }
  else { t with tick := 0, interval := t.interval + 1 }

/-- Whether no store write is in progress or waiting (R170). -/
def Store.idle (x : Store) : Bool := x.active.isNone && x.waiting.isEmpty

/-- The clocks one quarter on (R23, R130). A restart whose writes have ended reaches its boundary at the next
superframe boundary (R170 item 3; log 21). -/
def State.nextQuarter (s : State) : State :=
  { s with
    time := s.time.next
    runClock := s.runClock + 1
    siteTime := s.siteTime + 1
    restart := if s.restart = .pending ∧ s.time.interval = 11 ∧ s.store.idle then .due else s.restart }

/-- A cell's interval work emptied at the start of an interval (R33). -/
def Cell.newInterval (r : Cell) : Cell :=
  { r with work := [], frames := [], claim := none, deaf := false, assembled := false }

/-- The end of an interval (R43, R23): report slots are closed in cell-number order (log 6), the work lists are
emptied, and the clocks advance (log 7). -/
def State.endInterval (s : State) : State :=
  let t := match s.time.slot with
    | some h => allCells.foldl (fun (u : State) c => u.closeSlot c h) s
    | none => s
  (allCells.foldl (fun (u : State) c => u.modCell c Cell.newInterval) t).nextQuarter

/-! ## Cycle boundary (R19, R4, R41) -/

/-- The target of an entry's Announced move. -/
def Device.announcedTarget (d : Device) : Option DevIx :=
  match d.move with
  | some { target := j, stage := .announced } => some j
  | _ => none

/-- The transfer of the entry at index i to index j (R19, R53). The store-outstanding flags stay with their
indices (log 18). -/
def State.transfer (s : State) (i j : DevIx) : State :=
  let d := s.dev i
  let moved := { d with move := none, shadow := some i, outstanding := (s.dev j).outstanding }
  let t := (s.setDev j moved).setDev i d.vacated
  ((t.requestRoster [i, j]).create (.moveDone j i)).alignUnsupervised j

/-- The transfer of the entry at index i when its move is Announced; a Pending move is not transferred (R19). -/
def State.transferAnnounced (s : State) (i : DevIx) : State :=
  match (s.dev i).announcedTarget with
  | some j => s.transfer i j
  | none => s

/-- The indices whose store-outstanding flag is set (R4). -/
def State.outstandingSet (s : State) : List DevIx := allDevs.filter fun i => (s.dev i).outstanding

/-- The retries of R4; none is made while a restart is pending (R170). -/
def State.retryOutstanding (s : State) : State :=
  if s.restart = .idle then s.requestRoster s.outstandingSet else s

/-- The handling of a cycle boundary (R19, R4, R41): transfers in index order (log 6), retries, and the cycle slot
records. -/
def State.cycleBoundary (s : State) : State :=
  let t := (allDevs.foldl State.transferAnnounced s).retryOutstanding
  allCells.foldl State.prepareSlots t

/-- The handling of a superframe boundary (R28, R32): the end of the superframe, then the new beacons, the cells in
number order (log 6). -/
def State.superframeBoundary (s : State) : State :=
  allCells.foldl State.requestBeacon (allCells.foldl State.endSuperframe s)

/-! ## Meanings -/

/-- RECEIVED_COPY (R33). -/
def execReceivedCopy (c : CellIx) (x : Copy) (s : State) : Host.Outcome State Fault Refusal :=
  .next (s.whenRunning fun s => s.receiveCopy c x)

/-- DOWNLINK_ASSEMBLY (R38). -/
def execDownlinkAssembly (c : CellIx) (s : State) : Host.Outcome State Fault Refusal :=
  .next (s.whenRunning fun s => s.assemble c)

/-- TRANSMIT_CONFIRM (R28). -/
def execTransmitConfirm (c : CellIx) (t : TxName) (s : State) : Host.Outcome State Fault Refusal :=
  .next (s.whenRunning fun s => s.confirm c t)

/-- INTERVAL_END (R43, R23). -/
def execIntervalEnd (s : State) : Host.Outcome State Fault Refusal :=
  .next (s.whenRunning State.endInterval)

/-- SUPERFRAME_BOUNDARY (R32): taken once for each boundary the timebase reaches (log 3). -/
def execSuperframeBoundary (s : State) : Host.Outcome State Fault Refusal :=
  .next (s.whenRunning fun s =>
    if s.time.superframeDue then
      { s with time := { s.time with superframeDue := false } }.superframeBoundary
    else s)

/-- CYCLE_BOUNDARY (R41): taken once for each boundary the timebase reaches (log 3); at the boundary where a
restart begins, start-up takes its place (R170 item 3). -/
def execCycleBoundary (s : State) : Host.Outcome State Fault Refusal :=
  .next (s.whenRunning fun s =>
    if s.time.cycleDue ∧ s.restart ≠ .due then
      { s with time := { s.time with cycleDue := false } }.cycleBoundary
    else s)

end Sys2Proof.Machine
end

