-- ==== Sys2Proof/Machine/Links.lean ====
section
/-! DEFINITION. Panel and service links (08): taking a frame (R146, R150 to R154), the ordered checks (R155 to R158), and
the data of the query answers (R161 to R165), with the meanings of the six queries. -/

namespace Sys2Proof.Machine

/-! ## Taking a frame -/

/-- The receiver of a link back in Hunting (R149). -/
def State.hunt (s : State) (l : Link) : State := s.setPort l { s.port l with rx := .hunting }

/-- What a taken frame sets whatever its answer: the last frame time of a panel link (R146), and on Link S the
sample of the service key input (R154). -/
def State.frameTakenOn (s : State) (h : FrameHead) : State :=
  match h.link with
  | .A => { s with panelA := { s.panelA with lastFrame := s.runClock } }
  | .B => { s with panelB := { s.panelB with lastFrame := s.runClock } }
  | .S => { s with key := h.key }

/-- A response to the frame h. -/
def State.reply (s : State) (h : FrameHead) (r : Reply) : State := s.answer h.link h.tag r

/-- The command that makes a link answer BUSY: Restart while one is pending (R166), else the one it executes
(R152). -/
def State.busyWith (s : State) (l : Link) : Option Command :=
  if s.restart ≠ .idle then some .restart else ((s.port l).executing).map fun x => x.1

/-- A complete frame whose CRC agrees arrives on a link (R150): discarded while the link holds four responses
(R151), answered BUSY unchecked when the link is busy (R152, R166), and otherwise taken on to f. -/
def State.onFrame (s : State) (h : FrameHead) (f : State → State) : State :=
  let t := s.hunt h.link
  if 4 ≤ (t.port h.link).responses.length then t
  else
    let u := t.frameTakenOn h
    match u.busyWith h.link with
    | some c => u.reply h { result := .busy, value := c.code.toNat }
    | none => f u

/-! ## Commands -/

/-- A command that completes when it is taken: the link checks (R155 checks 1, 3 and 4), the command's own checks
and effect, and the answer. A refusal or a NO_CHANGE from the checks changes nothing (R156, R157). -/
def State.command (s : State) (h : FrameHead) (c : Command) (ops : List Byte)
    (body : State → Except Reply (Reply × State)) : State :=
  s.whenRunning fun s => s.onFrame h fun s =>
    match linkChecks h c ops.length with
    | .error r => s.reply h r
    | .ok _ =>
      match body s with
      | .error r => s.reply h r
      | .ok (r, t) => t.reply h r

/-- A command that writes to the Configuration Store (R152): once it has passed its checks and needs its write,
Link S executes it under the frame's tag and its write is requested; it is answered when the write ends. -/
def State.writeCommand (s : State) (h : FrameHead) (c : Command) (ops : List Byte)
    (body : State → Except Reply CommandWrite) : State :=
  s.whenRunning fun s => s.onFrame h fun s =>
    match linkChecks h c ops.length with
    | .error r => s.reply h r
    | .ok _ =>
      match body s with
      | .error r => s.reply h r
      | .ok w => (s.setPort h.link { s.port h.link with executing := some (c, h.tag) }).requestWrite (.command w)

/-- The reply of a command carried out (R157). -/
def doneReply (value : Nat := 0) (data : List Byte := []) : Reply := { result := .done, value := value, data := data }

/-- The answer NO_CHANGE, which changes nothing (R157). -/
def noChange {α : Type} (value : Nat := 0) (data : List Byte := []) : Except Reply α :=
  .error { result := .noChange, value := value, data := data }

/-! ## Query data (section 8.7, section 10.1) -/

/-- A field that is present when a condition holds. -/
def presentIf {α : Type} (p : Bool) (x : α) : Option α := if p then some x else none

/-- The number of stored events pending for a panel link. -/
def State.pendingFor (s : State) (p : Panel) : Nat := (s.events.filter fun e => e.pending.has p).length

/-- The attachment, lost flags and pending number of a panel link (R161). -/
def State.panelData (s : State) (p : Panel) : List Byte :=
  encFlag (s.panel p).attached ++ enc8 (s.panel p).lost.code ++ enc8 (s.pendingFor p)

/-- The site parameter set as a query gives it; the hold-off in two bytes (log 14). -/
def SiteParams.data (p : SiteParams) : List Byte :=
  enc8 p.missLimit ++ enc8 p.routeAge ++ enc16 p.holdOff ++ enc8 p.wFault ++ enc8 p.wWarning ++ enc8 p.wStatus

/-- The number of zones whose condition is c. -/
def State.zonesIn (s : State) (c : ZoneCond) : Nat := (allZones.filter fun z => (s.zone z).cond == c).length

/-- The status summary of Read Status and Attach (R161). -/
def State.statusData (s : State) : List Byte :=
  enc16 s.siteCount.toNat ++ enc32 s.runClock ++ enc32 s.siteTime.toNat ++ enc16 s.nextSeq.toNat ++
    enc8 s.events.length ++ s.panelData .A ++ s.panelData .B ++ encFlag s.key ++ encFlag s.store.invalid ++
    enc8 (s.countDevs fun _ d => d.outstanding) ++
    allCells.flatMap (fun c => enc8 (s.cell c).state.code) ++
    enc8 (s.zonesIn .fire) ++ enc8 (s.zonesIn .alerted) ++
    enc8 (s.countDevs fun _ d => d.life == .enrolling) ++ enc8 (s.countDevs fun _ d => d.life == .missing) ++
    s.site.data

/-- The verification state as a query gives it. -/
def Verification.data (m : Verification) : List Byte :=
  enc8 m.count ++ encOpt 4 enc32 m.first ++ encOpt 4 enc32 m.last

/-- The smoke state as a query gives it. -/
def SmokeState.data (m : SmokeState) : List Byte :=
  encOpt 2 (fun b : Nat => encS16 b) m.baseline ++ enc8 m.calCount ++ enc16 m.calSum ++ encS32 m.driftSum ++
    enc8 m.driftCount

/-- The heat state as a query gives it. -/
def HeatState.data (m : HeatState) : List Byte :=
  encOpt 6 (fun r : Int × Nat => encS16 r.1 ++ enc32 r.2) m.reference ++ encOpt 2 encS16 m.rate

/-- The data of a Read Device answer: 89 bytes (R162, section 10.1). -/
def State.deviceData (s : State) (i : DevIx) : List Byte :=
  let d := s.dev i
  let here := d.life != .vacant
  encOpt 3 enc24 (presentIf here d.identity) ++
    encOpt 1 (fun k : Kind => enc8 k.code) (presentIf here d.kind) ++
    encOpt 1 enc8 (presentIf here (if d.kind = .repeater then d.relay.val else d.zone.val)) ++
    encOpt 1 encFlag (presentIf here d.granted) ++
    encFlag d.outstanding ++
    encOpt 4 enc32 d.deadline ++
    encOpt 1 (fun q : Fin 16 => enc8 q.val) d.lastSeq ++
    encOpt 5 (fun r : Byte × Nat => r.1 :: enc32 r.2) d.lastReading ++
    encOpt 1 (fun b : Fin 8 => enc8 b.val) d.battery ++
    encOpt 1 (fun f : FaultSet => enc8 f.code) (presentIf here d.faults) ++
    encOpt 1 enc8 (presentIf here d.missCount) ++
    encOpt 1 encFlag (presentIf here d.heard) ++
    encOpt 1 (fun x : LinkSet => enc8 x.code) (presentIf here d.disabled) ++
    encOpt 1 (fun c : Cond => enc8 c.code) (presentIf (here && d.kind != .repeater) d.cond) ++
    encOpt 11 Verification.data (presentIf (here && d.kind == .smoke) d.verif) ++
    encOpt 11 SmokeState.data (presentIf (here && d.kind == .smoke) d.smoke) ++
    encOpt 10 HeatState.data (presentIf (here && d.kind == .heat) d.heat) ++
    encOpt 4 enc32 d.lastPreAlarm ++
    encOpt 2 encS16 d.offset ++
    encOpt 2 (fun m : Move => enc8 m.target.val ++ enc8 m.stage.code) d.move ++
    encOpt 1 (fun k : DevIx => enc8 k.val) d.shadow ++
    encOpt 1 (fun k : DevIx => enc8 k.val) (s.moverTo i) ++
    encOpt 1 (fun k : DevIx => enc8 k.val) (s.shadowHolder i) ++
    encFlag (s.counted i)

/-- The zone parameter set as a query gives it, in the order of R92; the corroboration window in two bytes
(log 14). -/
def ZoneParams.data (p : ZoneParams) : List Byte :=
  enc8 p.mode.code ++ enc16 p.corrWindow ++ enc8 p.normalTpre ++ enc8 p.normalTfire ++ enc8 p.serviceTpre ++
    enc8 p.serviceTfire ++ enc8 p.verifications ++ enc8 p.verifWindow ++ enc8 p.nominal ++ enc8 p.compLimit ++
    enc8 p.tfix ++ enc8 p.preOffset ++ enc8 p.rrise

/-- The data of a Read Zone answer (R163). -/
def State.zoneData (s : State) (z : ZoneIx) : List Byte :=
  let r := s.zone z
  enc8 r.cond.code ++ enc16 r.generation.toNat ++
    encOpt 3 (fun a : Ack => enc16 a.generation.toNat ++ enc8 a.link.code) r.ack ++
    encOpt 4 enc32 r.firstLatch ++ enc8 r.profile.code ++ encOpt 4 enc32 r.profileExpiry ++
    encOpt 5 (fun t : ZoneTest => enc8 t.owner.code ++ enc32 t.expiry) r.test ++
    enc8 r.disabled.code ++ r.params.data ++
    enc8 (s.countedWith z fun _ => true) ++
    enc8 (s.countedWith z fun d => d.cond == .fireLatched) ++
    enc8 (s.countDevs fun _ d => d.memberOf z && d.cond == .fireLatched && !d.countedIn r) ++
    enc8 (s.countDevs fun _ d => d.memberOf z)

/-- The data of a Read Cell answer (R164); the statistics counters and the cycle count are counts, of one byte each,
clamped (R174). -/
def State.cellData (s : State) (c : CellIx) : List Byte :=
  let r := s.cell c
  enc8 r.state.code ++ encOpt 1 encFlag (presentIf (r.state == .off) r.startPending) ++ enc8 r.channel.val ++
    encFlag r.beaconConfirmed ++ enc8 r.unconfirmed ++ r.slots.toList.flatMap (fun e => enc8 e.code) ++
    enc8 r.stats.integrity ++ enc8 r.stats.window ++ enc8 r.stats.foreignId ++ enc8 r.stats.unmatched ++
    enc8 s.time.phase.val ++ enc8 s.time.cycle.toNat

/-- A route position as a query gives it (R165): a presence byte, then its five fields, 0 when the position is free
(log 45). -/
def routeData (r : Option Route) : List Byte :=
  encOpt 5 (fun r : Route => enc8 r.path.val ++ enc8 r.quality ++ enc8 r.age ++ encFlag r.delivered ++
    encFlag r.pinned) r

/-- The data of a Read Route answer (R165). -/
def State.routesData (s : State) (i : DevIx) : List Byte :=
  routeData (s.dev i).routes.first ++ routeData (s.dev i).routes.second

/-- The fitted-cell set: 1, 2, 4 and 8 for cells 0 to 3 (R165). A cell is fitted when it is not Absent (R172). -/
def State.fittedSet (s : State) : Nat :=
  (allCells.map fun c => if (s.cell c).state = .absent then 0 else 2 ^ c.val).sum

/-- The data of a Read Identity answer (R165): part code, firmware version (log 10), fitted cells, capacities. -/
def State.identityData (s : State) : List Byte :=
  enc16 0x4412 ++ enc16 Config.firmwareVersion.toNat ++ enc8 s.fittedSet ++
    enc16 192 ++ enc16 48 ++ enc16 32 ++ enc16 256 ++ enc16 1 ++ enc16 15 ++ enc16 2 ++ enc16 0 ++ enc16 31

/-! ## Queries -/

/-- A query's answer: DONE with its value and data, nothing changed (R160). -/
def answerQuery (s : State) (value : Nat) (data : List Byte) : Except Reply (Reply × State) :=
  .ok (doneReply value data, s)

/-- Read Status (R161). -/
def readStatus (s : State) : Except Reply (Reply × State) := answerQuery s s.siteCount.toNat s.statusData

/-- Read Device (R162): the value is the entry's state code. -/
def readDevice (ops : List Byte) (s : State) : Except Reply (Reply × State) :=
  match ops with
  | [b] => do
    let i ← deviceTarget b
    answerQuery s (s.dev i).life.code (s.deviceData i)
  | _ => refuse .badFrame

/-- Read Zone (R163): the value is the zone's generation. -/
def readZone (ops : List Byte) (s : State) : Except Reply (Reply × State) :=
  match ops with
  | [b] => do
    let z ← zoneTarget b
    answerQuery s (s.zone z).generation.toNat (s.zoneData z)
  | _ => refuse .badFrame

/-- Read Cell (R164): the value is the cell's state code. -/
def readCell (ops : List Byte) (s : State) : Except Reply (Reply × State) :=
  match ops with
  | [b] => do
    let c ← cellTarget b
    answerQuery s (s.cell c).state.code (s.cellData c)
  | _ => refuse .badFrame

/-- Read Route (R165): the value is the preferred path. -/
def readRoute (ops : List Byte) (s : State) : Except Reply (Reply × State) :=
  match ops with
  | [b] => do
    let i ← deviceTarget b
    answerQuery s (s.dev i).routes.preferred.val (s.routesData i)
  | _ => refuse .badFrame

/-- Read Identity (R165): the value is 0. -/
def readIdentity (s : State) : Except Reply (Reply × State) := answerQuery s 0 s.identityData

/-- READ_STATUS (R161). -/
def execReadStatus (h : FrameHead) (ops : List Byte) (s : State) : Host.Outcome State Fault Refusal :=
  .next (s.command h .readStatus ops readStatus)

/-- READ_DEVICE (R162). -/
def execReadDevice (h : FrameHead) (ops : List Byte) (s : State) : Host.Outcome State Fault Refusal :=
  .next (s.command h .readDevice ops (readDevice ops))

/-- READ_ZONE (R163). -/
def execReadZone (h : FrameHead) (ops : List Byte) (s : State) : Host.Outcome State Fault Refusal :=
  .next (s.command h .readZone ops (readZone ops))

/-- READ_CELL (R164). -/
def execReadCell (h : FrameHead) (ops : List Byte) (s : State) : Host.Outcome State Fault Refusal :=
  .next (s.command h .readCell ops (readCell ops))

/-- READ_ROUTE (R165). -/
def execReadRoute (h : FrameHead) (ops : List Byte) (s : State) : Host.Outcome State Fault Refusal :=
  .next (s.command h .readRoute ops (readRoute ops))

/-- READ_IDENTITY (R165). -/
def execReadIdentity (h : FrameHead) (ops : List Byte) (s : State) : Host.Outcome State Fault Refusal :=
  .next (s.command h .readIdentity ops readIdentity)

end Sys2Proof.Machine
end

