-- ==== Sys2Proof/Machine/Delivery.lean ====
section
/-! DEFINITION. Delivery and attachment (07, sections 7.4 and 7.5): the meanings of ATTACH, DETACH, FETCH_EVENT and
LINK_SILENCE. -/

namespace Sys2Proof.Machine

/-- The panel link that a link is, if it is one. -/
def panelOf : Link → Option Panel
  | .A => some .A
  | .B => some .B
  | .S => none

/-- The other panel link. -/
def otherPanel : Panel → Panel
  | .A => .B
  | .B => .A

/-- The event weights as credits (R143). -/
def SiteParams.weights (p : SiteParams) : Credits where
  fault := p.wFault
  warning := p.wWarning
  status := p.wStatus

/-! ## Attachment -/

/-- Attach (R144). From Link S, WRONG_STATE; already attached, NO_CHANGE; the value and data are those of Read
Status in both answers, as the state stands after the command (log 36). -/
def attach (h : FrameHead) (s : State) : Except Reply (Reply × State) :=
  match panelOf h.link with
  | none => refuse .wrongState
  | some p =>
    if (s.panel p).attached then noChange s.siteCount.toNat s.statusData
    else
      let t := s.setPanel p { s.panel p with attached := true, credits := s.site.weights }
      .ok (doneReply t.siteCount.toNat t.statusData, t)

/-- The stored events after a panel link is removed from every pending set; an event whose set becomes empty
leaves the store (R138, R145). -/
def withoutPanel (events : List Event) (p : Panel) : List Event :=
  (events.map fun e => { e with pending := e.pending.remove p }).filter fun e => !e.pending.isEmpty

/-- The detachment of an attached panel link, by command or by silence (R145 steps 1 to 4, R147). -/
def State.detachPanel (s : State) (p : Panel) (cause : DetachCause) : State :=
  let t := { s.setPanel p { s.panel p with attached := false, credits := {}, lost := {} } with
    events := withoutPanel s.events p }
  if (t.panel (otherPanel p)).attached then t.create (.linkDetached p cause) else t

/-- Detach (R145). -/
def detach (h : FrameHead) (s : State) : Except Reply (Reply × State) :=
  match panelOf h.link with
  | none => refuse .wrongState
  | some p => if (s.panel p).attached then .ok (doneReply, s.detachPanel p .command) else noChange

/-! ## Fetch Event -/

/-- Whether some stored event of a class is pending for a panel link. -/
def State.pendingClass (s : State) (p : Panel) (c : EventClass) : Bool :=
  s.events.any fun e => e.pending.has p && e.body.cls == c

/-- The first class, in the order Fault, Warning, Status, with credit and an event pending (R141). -/
def State.creditChoice (s : State) (p : Panel) (x : Credits) : Option EventClass :=
  [EventClass.fault, .warning, .status].find? fun c => 0 < x.of c && s.pendingClass p c

/-- The class a fetch is given and the link's credits after it (R140, R141): Fire first, without credits; else by
credit; else by credit after a reload from the event weights. -/
def State.fetchChoice (s : State) (p : Panel) : Option (EventClass × Credits) :=
  if s.pendingClass p .fire then some (.fire, (s.panel p).credits)
  else
    match s.creditChoice p (s.panel p).credits with
    | some c => some (c, (s.panel p).credits.spend c)
    | none => (s.creditChoice p s.site.weights).map fun c => (c, s.site.weights.spend c)

/-- The oldest stored event of a class that is pending for a panel link (R140, R141). -/
def State.oldestPending (s : State) (p : Panel) (c : EventClass) : Option Event :=
  s.events.find? fun e => e.pending.has p && e.body.cls == c

/-- The stored events after panel link p has fetched the oldest event of class c pending for it: the link leaves
its pending set, and it leaves the store when the set becomes empty (R138, R142). -/
def afterFetch (p : Panel) (c : EventClass) : List Event → List Event
  | [] => []
  | e :: es =>
    if e.pending.has p && e.body.cls == c then
      if (e.pending.remove p).isEmpty then es else { e with pending := e.pending.remove p } :: es
    else e :: afterFetch p c es

/-- Fetch Event (R139 to R142): the answer carries the lost flags, which it clears, and the event chosen. -/
def fetchEvent (h : FrameHead) (s : State) : Except Reply (Reply × State) :=
  match panelOf h.link with
  | none => refuse .notAttached
  | some p =>
    let d := s.panel p
    if !d.attached then refuse .notAttached
    else
      match s.fetchChoice p with
      | none =>
        if d.lost.isClear then noChange 0 (enc8 d.lost.code)
        else .ok (doneReply 0 (enc8 d.lost.code), s.setPanel p { d with lost := {} })
      | some (c, credits) =>
        match s.oldestPending p c with
        | none => noChange 0 (enc8 d.lost.code)
        | some e =>
          let t := { s.setPanel p { d with lost := {}, credits := credits } with events := afterFetch p c s.events }
          .ok (doneReply (t.pendingFor p) (enc8 d.lost.code ++ e.record), t)

/-! ## Link silence -/

/-- Whether the silence of a panel link has expired: attached, and 80 quarters since its last frame (R146). -/
def State.silenceExpired (s : State) (p : Panel) : Bool :=
  (s.panel p).attached && (s.panel p).lastFrame + 80 ≤ s.runClock

/-! ## Meanings -/

/-- ATTACH (R144). -/
def execAttach (h : FrameHead) (ops : List Byte) (s : State) : Host.Outcome State Fault Refusal :=
  .next (s.command h .attach ops (attach h))

/-- DETACH (R145). -/
def execDetach (h : FrameHead) (ops : List Byte) (s : State) : Host.Outcome State Fault Refusal :=
  .next (s.command h .detach ops (detach h))

/-- FETCH_EVENT (R139). -/
def execFetchEvent (h : FrameHead) (ops : List Byte) (s : State) : Host.Outcome State Fault Refusal :=
  .next (s.command h .fetchEvent ops (fetchEvent h))

/-- LINK_SILENCE (R146): nothing happens before the silence expires (log 3). -/
def execLinkSilence (p : Panel) (s : State) : Host.Outcome State Fault Refusal :=
  .next (s.whenRunning fun s => if s.silenceExpired p then s.detachPanel p .silence else s)

end Sys2Proof.Machine
end

