-- ==== Sys2Proof/Machine/Operator.lean ====
section
/-! DEFINITION. Operator actions from two panels (06): acknowledgement and reset, site-wide actions, disablement, tests,
profiles and Site Time, and Clear Cell Statistics (R44). -/

namespace Sys2Proof.Machine

/-- Whether a zone is in alarm: Fire or Alerted (R113). -/
def Zone.inAlarm (r : Zone) : Bool := r.cond == .fire || r.cond == .alerted

/-- A zone counts as acknowledged only while its acknowledgement's generation equals its current generation
(R106). -/
def Zone.acknowledged (r : Zone) : Bool :=
  match r.ack with
  | some a => a.generation == r.generation
  | none => false

/-! ## Acknowledgement (section 6.2) -/

/-- An acknowledgement of a zone's current generation by a link, with its event (R113, R118). -/
def State.acknowledgeBy (s : State) (l : Link) (z : ZoneIx) : State :=
  let g := (s.zone z).generation
  (s.modZone z fun r => { r with ack := some { generation := g, link := l } }).create (.zoneAcknowledged z g l)

/-- The link that a zone's acknowledgement records, as the data byte of the answer (R113, 10.2). -/
def ackData (r : Zone) : List Byte := enc8 ((r.ack.map fun a => a.link.code).getD 0)

/-- Acknowledge Zone (R113). -/
def acknowledgeZone (h : FrameHead) (ops : List Byte) (s : State) : Except Reply (Reply × State) :=
  match ops with
  | [b, ghi, glo] => do
    let z ← zoneTarget b
    s.checkAttached h
    let r := s.zone z
    let g := r.generation.toNat
    check r.inAlarm .notInAlarm g
    check (be16 ghi glo = r.generation) .stale g
    if r.acknowledged then noChange g (ackData r)
    else
      let t := s.acknowledgeBy h.link z
      .ok (doneReply g (ackData (t.zone z)), t)
  | _ => refuse .badFrame

/-- Whether a zone in alarm is not acknowledged at its current generation. -/
def Zone.needsAck (r : Zone) : Bool := r.inAlarm && !r.acknowledged

/-- Acknowledge All (R118). -/
def acknowledgeAll (h : FrameHead) (ops : List Byte) (s : State) : Except Reply (Reply × State) :=
  match ops with
  | [hi, lo] => do
    s.checkAttached h
    check (be16 hi lo = s.siteCount) .stale s.siteCount.toNat
    let zs := allZones.filter fun z => (s.zone z).needsAck
    if zs.isEmpty then noChange
    else .ok (doneReply zs.length, zs.foldl (fun t z => t.acknowledgeBy h.link z) s)
  | _ => refuse .badFrame

/-! ## Reset (sections 6.3 and 6.4) -/

/-- The steps of a zone reset (R116). -/
def State.resetBy (s : State) (l : Link) (z : ZoneIx) : State :=
  ((s.mapMembers z Device.resetCleared).create (.zoneReset z (s.zone z).generation l)).recompute z

/-- Reset Zone (R115, R116). -/
def resetZone (h : FrameHead) (ops : List Byte) (s : State) : Except Reply (Reply × State) :=
  match ops with
  | [b, ghi, glo] => do
    let z ← zoneTarget b
    s.checkAttached h
    let r := s.zone z
    let g := r.generation.toNat
    check r.inAlarm .notInAlarm g
    check (be16 ghi glo = r.generation) .stale g
    check r.acknowledged .notAcknowledged g
    .ok (doneReply g, s.resetBy h.link z)
  | _ => refuse .badFrame

/-- Reset All (R119). -/
def resetAll (h : FrameHead) (ops : List Byte) (s : State) : Except Reply (Reply × State) :=
  match ops with
  | [hi, lo] => do
    s.checkAttached h
    check (be16 hi lo = s.siteCount) .stale s.siteCount.toNat
    let zs := allZones.filter fun z => (s.zone z).inAlarm
    if zs.isEmpty then noChange
    else
      match zs.find? fun z => !(s.zone z).acknowledged with
      | some z => refuse .notAcknowledged z.val
      | none => .ok (doneReply zs.length, zs.foldl (fun t z => t.resetBy h.link z) s)
  | _ => refuse .badFrame

/-! ## Disablement (section 6.5) -/

/-- The checks of the device disablement commands: target, present, attached, not a Repeater (R112, R120). -/
def deviceChecks (h : FrameHead) (b : Byte) (s : State) : Except Reply DevIx := do
  let i ← deviceTarget b
  s.checkPresent i
  s.checkAttached h
  check ((s.dev i).kind != .repeater) .wrongState
  return i

/-- A device's first disablement member added: Disabled, the verification clear of a Smoke member that is not
FireLatched, and the roll-up when the device was counted (R120, R96). -/
def State.firstDisable (s : State) (l : Link) (i : DevIx) : State :=
  let t := s.modDev i fun d =>
    let d' := { d with disabled := d.disabled.add l }
    if d.cond = .fireLatched then d' else d'.verifCleared
  let u := t.create (.deviceDisabled i l)
  if s.counted i then u.recompute (s.dev i).zone else u

/-- Disable Device (R120). -/
def disableDevice (h : FrameHead) (ops : List Byte) (s : State) : Except Reply (Reply × State) :=
  match ops with
  | [b] => do
    let i ← deviceChecks h b s
    let x := (s.dev i).disabled
    if x.has h.link then noChange x.code
    else if x.isEmpty then .ok (doneReply (x.add h.link).code, s.firstDisable h.link i)
    else .ok (doneReply (x.add h.link).code, s.modDev i fun d => { d with disabled := d.disabled.add h.link })
  | _ => refuse .badFrame

/-- Enable Device (R122). -/
def enableDevice (h : FrameHead) (ops : List Byte) (s : State) : Except Reply (Reply × State) :=
  match ops with
  | [b] => do
    let i ← deviceChecks h b s
    let x := (s.dev i).disabled
    if !x.has h.link then noChange x.code
    else
      let t := s.modDev i fun d => { d with disabled := d.disabled.remove h.link }
      if (x.remove h.link).isEmpty then
        .ok (doneReply (x.remove h.link).code, (t.create (.deviceEnabled i h.link)).deviceCounted i)
      else .ok (doneReply (x.remove h.link).code, t)
  | _ => refuse .badFrame

/-- A zone's first disablement member added: Disabled, the end of a test, the verification clear of every Smoke
member that is not FireLatched, and the roll-up (R121, R96). -/
def State.firstDisableZone (s : State) (l : Link) (z : ZoneIx) : State :=
  let t := (s.modZone z fun r => { r with disabled := r.disabled.add l, test := none }).create (.zoneDisabled z l)
  let u := match (s.zone z).test with
    | some x => t.create (.testEnded z x.owner .disablement)
    | none => t
  (u.mapMembers z fun d => if d.cond = .fireLatched then d else d.verifCleared).recompute z

/-- Disable Zone (R121). -/
def disableZone (h : FrameHead) (ops : List Byte) (s : State) : Except Reply (Reply × State) :=
  match ops with
  | [b] => do
    let z ← zoneTarget b
    s.checkAttached h
    let x := (s.zone z).disabled
    if x.has h.link then noChange x.code
    else if x.isEmpty then .ok (doneReply (x.add h.link).code, s.firstDisableZone h.link z)
    else .ok (doneReply (x.add h.link).code, s.modZone z fun r => { r with disabled := r.disabled.add h.link })
  | _ => refuse .badFrame

/-- Enable Zone (R123): when the set empties, the latched members now counted begin counted latches in index
order, and the roll-up is recomputed once. -/
def enableZone (h : FrameHead) (ops : List Byte) (s : State) : Except Reply (Reply × State) :=
  match ops with
  | [b] => do
    let z ← zoneTarget b
    s.checkAttached h
    let x := (s.zone z).disabled
    if !x.has h.link then noChange x.code
    else
      let t := s.modZone z fun r => { r with disabled := r.disabled.remove h.link }
      if (x.remove h.link).isEmpty then
        .ok (doneReply (x.remove h.link).code,
          (t.create (.zoneEnabled z h.link)).membersCounted z (t.members z fun _ => true))
      else .ok (doneReply (x.remove h.link).code, t)
  | _ => refuse .badFrame

/-- Clear Disablements (R125): every set is emptied; Enabled for each device in index order, then for each zone; then
zone by zone the changes of counting (R96). -/
def clearDisablements (s : State) : Except Reply (Reply × State) :=
  let ds := allDevs.filter fun i => !(s.dev i).disabled.isEmpty
  let zs := allZones.filter fun z => !(s.zone z).disabled.isEmpty
  if ds.isEmpty && zs.isEmpty then noChange
  else
    let t := { s.mapDevs fun _ d => { d with disabled := {} } with
      zones := Vector.ofFn fun z => { s.zone z with disabled := {} } }
    let u := (t.createAll (ds.map fun i => .deviceEnabled i .S)).createAll (zs.map fun z => .zoneEnabled z .S)
    let touched := allZones.filter fun z =>
      z ∈ zs || ds.any fun i => (s.dev i).memberOf z
    .ok (doneReply (ds.length + zs.length),
      touched.foldl (fun v z => v.membersCounted z ((v.members z fun _ => true).filter fun i => !s.counted i)) u)

/-! ## Tests (section 6.6) -/

/-- The start of a test (R126). -/
def State.startTestBy (s : State) (l : Link) (z : ZoneIx) (minutes : Nat) : State :=
  (((s.modZone z fun r => { r with test := some { owner := l, expiry := s.runClock + 240 * minutes } }).mapMembers z
    Device.resetCleared).create (.testStarted z l minutes)).recompute z

/-- Start Test (R126), and the extension of the sending link's own test (R127). -/
def startTest (h : FrameHead) (ops : List Byte) (s : State) : Except Reply (Reply × State) :=
  match ops with
  | [b, m] => do
    let z ← zoneTarget b
    s.checkAttached h
    let minutes := testMinutes m
    check (s.zone z).disabled.isEmpty .zoneDisabled
    match (s.zone z).test with
    | none => .ok (doneReply minutes, s.startTestBy h.link z minutes)
    | some x =>
      if x.owner ≠ h.link then refuse .wrongState x.owner.code
      else if x.expiry < s.runClock + 240 * minutes then
        .ok (doneReply minutes,
          s.modZone z fun r => { r with test := some { x with expiry := s.runClock + 240 * minutes } })
      else noChange
  | _ => refuse .badFrame

/-- The end of a zone's test with its event, and the members counted again (R128, R111, R96). -/
def State.endTestOf (s : State) (z : ZoneIx) (owner : Link) (cause : TestEnd) : State :=
  ((s.modZone z fun r => { r with test := none }).create (.testEnded z owner cause)).recompute z

/-- End Test (R128). -/
def endTest (h : FrameHead) (ops : List Byte) (s : State) : Except Reply (Reply × State) :=
  match ops with
  | [b] => do
    let z ← zoneTarget b
    s.checkAttached h
    match (s.zone z).test with
    | none => noChange
    | some x =>
      if x.owner ≠ h.link ∧ h.link ≠ .S then refuse .wrongState x.owner.code
      else .ok (doneReply, s.endTestOf z x.owner (.link h.link))
  | _ => refuse .badFrame

/-! ## Profile and Site Time (section 6.7) -/

/-- Select Profile (R129). -/
def selectProfile (h : FrameHead) (ops : List Byte) (s : State) : Except Reply (Reply × State) :=
  match ops with
  | [b, p, m] => do
    let z ← zoneTarget b
    s.checkAttached h
    match profileOperand p with
    | none => refuse .badValue
    | some .normal =>
      if (s.zone z).profile = .normal then noChange
      else
        .ok (doneReply,
          (s.modZone z fun r => { r with profile := .normal, profileExpiry := none }).create
            (.profileChanged z .normal (some h.link) 0))
    | some .service =>
      let minutes := profileMinutes m
      .ok (doneReply minutes,
        (s.modZone z fun r =>
          { r with profile := .service, profileExpiry := some (s.runClock + 240 * minutes) }).create
          (.profileChanged z .service (some h.link) minutes))
  | _ => refuse .badFrame

/-- Set Time (R130). -/
def setTime (h : FrameHead) (ops : List Byte) (s : State) : Except Reply (Reply × State) :=
  match ops with
  | [a, b, c, d] => do
    s.checkAttached h
    .ok (doneReply, { s with siteTime := be32 a b c d })
  | _ => refuse .badFrame

/-- Clear Cell Statistics (R44). -/
def clearCellStatistics (ops : List Byte) (s : State) : Except Reply (Reply × State) :=
  match ops with
  | [b] => do
    let c ← cellTarget b
    s.checkFitted c
    if (s.cell c).stats = {} then noChange
    else .ok (doneReply, s.modCell c fun r => { r with stats := {} })
  | _ => refuse .badFrame

/-! ## Meanings -/

/-- ACKNOWLEDGE_ZONE (R113). -/
def execAcknowledgeZone (h : FrameHead) (ops : List Byte) (s : State) : Host.Outcome State Fault Refusal :=
  .next (s.command h .acknowledgeZone ops (acknowledgeZone h ops))

/-- RESET_ZONE (R116). -/
def execResetZone (h : FrameHead) (ops : List Byte) (s : State) : Host.Outcome State Fault Refusal :=
  .next (s.command h .resetZone ops (resetZone h ops))

/-- ACKNOWLEDGE_ALL (R118). -/
def execAcknowledgeAll (h : FrameHead) (ops : List Byte) (s : State) : Host.Outcome State Fault Refusal :=
  .next (s.command h .acknowledgeAll ops (acknowledgeAll h ops))

/-- RESET_ALL (R119). -/
def execResetAll (h : FrameHead) (ops : List Byte) (s : State) : Host.Outcome State Fault Refusal :=
  .next (s.command h .resetAll ops (resetAll h ops))

/-- DISABLE_DEVICE (R120). -/
def execDisableDevice (h : FrameHead) (ops : List Byte) (s : State) : Host.Outcome State Fault Refusal :=
  .next (s.command h .disableDevice ops (disableDevice h ops))

/-- ENABLE_DEVICE (R122). -/
def execEnableDevice (h : FrameHead) (ops : List Byte) (s : State) : Host.Outcome State Fault Refusal :=
  .next (s.command h .enableDevice ops (enableDevice h ops))

/-- DISABLE_ZONE (R121). -/
def execDisableZone (h : FrameHead) (ops : List Byte) (s : State) : Host.Outcome State Fault Refusal :=
  .next (s.command h .disableZone ops (disableZone h ops))

/-- ENABLE_ZONE (R123). -/
def execEnableZone (h : FrameHead) (ops : List Byte) (s : State) : Host.Outcome State Fault Refusal :=
  .next (s.command h .enableZone ops (enableZone h ops))

/-- CLEAR_DISABLEMENTS (R125). -/
def execClearDisablements (h : FrameHead) (ops : List Byte) (s : State) : Host.Outcome State Fault Refusal :=
  .next (s.command h .clearDisablements ops clearDisablements)

/-- START_TEST (R126). -/
def execStartTest (h : FrameHead) (ops : List Byte) (s : State) : Host.Outcome State Fault Refusal :=
  .next (s.command h .startTest ops (startTest h ops))

/-- END_TEST (R128). -/
def execEndTest (h : FrameHead) (ops : List Byte) (s : State) : Host.Outcome State Fault Refusal :=
  .next (s.command h .endTest ops (endTest h ops))

/-- SELECT_PROFILE (R129). -/
def execSelectProfile (h : FrameHead) (ops : List Byte) (s : State) : Host.Outcome State Fault Refusal :=
  .next (s.command h .selectProfile ops (selectProfile h ops))

/-- SET_TIME (R130). -/
def execSetTime (h : FrameHead) (ops : List Byte) (s : State) : Host.Outcome State Fault Refusal :=
  .next (s.command h .setTime ops (setTime h ops))

/-- CLEAR_CELL_STATISTICS (R44). -/
def execClearCellStatistics (h : FrameHead) (ops : List Byte) (s : State) : Host.Outcome State Fault Refusal :=
  .next (s.command h .clearCellStatistics ops (clearCellStatistics ops))

end Sys2Proof.Machine
end

