-- ==== Sys2Proof/Machine/Service.lean ====
section
/-! DEFINITION. Commissioning and service: enrolment, removal and moves (01, sections 1.4, 1.6, 1.7), pins (R59, R60),
zone and site parameters (R92, R93, R159), cell channels, stop and start (R29 to R31), Restart (R166), and the
ends of the command writes (R152, R157). -/

namespace Sys2Proof.Machine

/-! ## Enrol Device (R7, R8) -/

/-- Check 5 of R7: the kind of an Enrol Device frame with its zone or relay number. The relay numbers in use are those
of the working roster (log 43). -/
def State.enrolKind (s : State) (kind b : Byte) : Except Reply (Kind × ZoneIx × Path) :=
  match Kind.ofCode kind with
  | none => refuse .badValue
  | some .repeater =>
    if h : b.toNat < 16 then
      if b.toNat = 0 ∨ s.relayUsed ⟨b.toNat, h⟩ then refuse .badValue
      else .ok (.repeater, 0, ⟨b.toNat, h⟩)
    else refuse .badValue
  | some k => if h : b.toNat < 32 then .ok (k, ⟨b.toNat, h⟩, 0) else refuse .badValue

/-- The checks of Enrol Device in the order of R7, and the stored entry it writes (R8). -/
def enrolDevice (ops : List Byte) (s : State) : Except Reply CommandWrite :=
  match ops with
  | [b, i1, i2, i3, kind, zr] => do
    let i ← deviceTarget b
    s.checkFitted (homeCell i)
    check (s.isFree i) .slotTaken
    check (s.holder (be24 i1 i2 i3)).isNone .duplicateIdentity
    let (k, z, p) ← s.enrolKind kind zr
    return .enrol i { identity := be24 i1 i2 i3, kind := k, zone := z, relay := p, granted := false }
  | _ => refuse .badFrame

/-- The record that enrolment sets up for a stored entry (R2, R3): the fields of the entry, the start-up values in
the others. -/
def StoredEntry.fresh (e : StoredEntry) : Device where
  life := .enrolling
  identity := e.identity
  kind := e.kind
  zone := e.zone
  relay := e.relay
  granted := e.granted

/-- The working change of Enrol Device (R8): the entry becomes Enrolling with its deadline. -/
def State.enrolled (s : State) (i : DevIx) (e : StoredEntry) : State :=
  s.modDev i fun d => { e.fresh with outstanding := d.outstanding, deadline := some (s.runClock + 2400) }

/-- The working change that a write of Enrol Device carries. -/
def enrolApply : CommandWrite → Option (State → State)
  | .enrol i e => some fun s => s.enrolled i e
  | _ => none

/-! ## Remove Device (R14 to R16) -/

/-- Remove Device (R14): the write erases the stored entry and, for a Repeater, the pins on its relay number. -/
def removeDevice (ops : List Byte) (s : State) : Except Reply CommandWrite :=
  match ops with
  | [b] => do
    let i ← deviceTarget b
    s.checkPresent i
    return .remove i (s.dev i).identity (if (s.dev i).kind = .repeater then some (s.dev i).relay else none)
  | _ => refuse .badFrame

/-- The route entries of the other devices that name relay number p deleted (R16). -/
def State.dropRelay (s : State) (i : DevIx) (p : Path) : State :=
  s.mapDevs fun k d => if k = i then d else { d with routes := d.routes.drop p }

/-- The removal of the entry at index i as it stands (R15, R16). The roll-up is recomputed last, so that its
ZoneCondition event follows the DeviceRemoved event (R105). -/
def State.removed (s : State) (i : DevIx) : State :=
  let d := s.dev i
  let t := s.setDev i d.vacated
  if d.kind = .repeater then (t.dropRelay i d.relay).create (.deviceRemoved i)
  else (t.create (.deviceRemoved i)).recompute d.zone

/-- The working change of a Remove Device: the record it was about, wherever it stands now; none when it became
Vacant during the write (R14). -/
def State.removedWrite (s : State) (i : DevIx) (identity : BitVec 24) : State :=
  match s.follow i identity with
  | some j => s.removed j
  | none => s

/-- The working change that a write of Remove Device carries. -/
def removeApply : CommandWrite → Option (State → State)
  | .remove i identity _ => some fun s => s.removedWrite i identity
  | _ => none

/-! ## Moves (R17, R21) -/

/-- Move Device, its checks in the order of R17. -/
def moveDevice (ops : List Byte) (s : State) : Except Reply (Reply × State) :=
  match ops with
  | [bi, bj] => do
    let i ← deviceTarget bi
    let j ← deviceTarget bj
    s.checkFitted (homeCell j)
    s.checkPresent i
    check (i ≠ j) .badValue
    check (s.dev i).life.owns .wrongState
    check ((s.dev i).move.isNone && (s.dev i).shadow.isNone) .wrongState
    check (s.isFree j) .slotTaken
    return (doneReply, s.modDev i fun d => { d with move := some { target := j, stage := .pending } })
  | _ => refuse .badFrame

/-- The cancellation of a move (R21): a Pending move is dropped; an Announced one turns into a shadow slot held at
its target, whose cycle slot record entry becomes Unowned (R41; log 22). -/
def State.cancelled (s : State) (i : DevIx) (m : Move) : State :=
  match m.stage with
  | .pending => s.modDev i fun d => { d with move := none }
  | .announced =>
    (s.modDev i fun d => { d with move := none, shadow := some m.target }).setSlot (homeCell m.target)
      (homeSlot m.target) .unowned

/-- Cancel Move (R21). -/
def cancelMove (ops : List Byte) (s : State) : Except Reply (Reply × State) :=
  match ops with
  | [b] => do
    let i ← deviceTarget b
    s.checkPresent i
    match (s.dev i).move with
    | none => refuse .wrongState
    | some m => .ok (doneReply, s.cancelled i m)
  | _ => refuse .badFrame

/-! ## Pins (R59, R60) -/

/-- The checks that Pin Route and Unpin Route share (R59 steps 1 to 3 and the range of the path). -/
def State.routeChecks (s : State) (bi bp : Byte) : Except Reply (DevIx × Path) := do
  let i ← deviceTarget bi
  s.checkPresent i
  check (s.dev i).life.owns .wrongState
  if h : bp.toNat < 16 then return (i, ⟨bp.toNat, h⟩) else refuse .badValue

/-- Pin Route, its checks in the order of R59. -/
def pinRoute (ops : List Byte) (s : State) : Except Reply CommandWrite :=
  match ops with
  | [bi, bp] => do
    let (i, p) ← s.routeChecks bi bp
    let d := s.dev i
    check (!(d.kind == .repeater && d.relay == p)) .badValue
    check (p == 0 || s.relayUsed p) .badValue
    match d.routes.find p with
    | some r => if r.pinned then noChange else return .pin i d.identity p
    | none => do
      check (!d.routes.bothPinned) .wrongState
      return .pin i d.identity p
  | _ => refuse .badFrame

/-- Unpin Route (R60). -/
def unpinRoute (ops : List Byte) (s : State) : Except Reply CommandWrite :=
  match ops with
  | [bi, bp] => do
    let (i, p) ← s.routeChecks bi bp
    match (s.dev i).routes.find p with
    | none => refuse .wrongState
    | some r => if r.pinned then return .unpin i (s.dev i).identity p else noChange
  | _ => refuse .badFrame

/-- A change of the route entries of the record that a pin or unpin was about (R59). When its move was transferred
during the write, the store-outstanding flags of both indices are set. A pin is applied though a deadline taken
during the write has left its relay number unused (log 41). -/
def State.routesWrite (s : State) (i : DevIx) (identity : BitVec 24) (f : RoutePair → RoutePair) : State :=
  match s.follow i identity with
  | none => s
  | some j =>
    let t := s.modDev j fun d => { d with routes := f d.routes }
    if j = i then t else t.markOutstanding [i, j] true

/-- The working change that a write of Pin Route carries. -/
def pinApply : CommandWrite → Option (State → State)
  | .pin i identity p => some fun s => s.routesWrite i identity fun x => x.pin p
  | _ => none

/-- The working change that a write of Unpin Route carries. -/
def unpinApply : CommandWrite → Option (State → State)
  | .unpin i identity p => some fun s => s.routesWrite i identity fun x => x.unpin p
  | _ => none

/-! ## Zone parameters (R92, R93, R77) -/

/-- Set Zone Parameters (R92, R93). -/
def setZoneParameters (ops : List Byte) (s : State) : Except Reply CommandWrite :=
  match ops with
  | [b, mode, cwHi, cwLo, npre, nfire, spre, sfire, v, vw, n, l, tfix, pre, rise] => do
    let z ← zoneTarget b
    let p ← zoneParamsOperand mode cwHi cwLo npre nfire spre sfire v vw n l tfix pre rise
    if p = (s.zone z).params then noChange else return .zone z p
  | _ => refuse .badFrame

/-- The baseline of a smoke member brought within its zone's limit, and Contaminated decided when it is Supervised
(R75, R77, R93; log 30). -/
def State.limitMember (s : State) (i : DevIx) : State :=
  match (s.dev i).smoke.baseline with
  | none => s
  | some b =>
    let limit := 16 * (s.zone (s.dev i).zone).params.compLimit
    let d : Device := { s.dev i with smoke := { (s.dev i).smoke with baseline := some (min limit b) } }
    if d.life = .supervised then
      let e := ({ d := d } : Eval).contaminated (s.setting i) (min limit b) limit
      (s.setDev i e.d).createAll e.events
    else s.setDev i d

/-- The smoke members of a zone, in index order (R77, R93). -/
def State.smokeMembers (s : State) (z : ZoneIx) : List DevIx := s.members z fun d => d.kind == .smoke

/-- A new parameter set in force in a zone, with the three steps of R93. -/
def State.withParams (s : State) (z : ZoneIx) (p : ZoneParams) : State :=
  let t := s.modZone z fun r => { r with params := p }
  let u := if p.compLimit = (s.zone z).params.compLimit then t
    else (t.smokeMembers z).foldl State.limitMember t
  let v := u.recompute z
  if v.windowExpired z then v.lapse z else v

/-- The working change that a write of Set Zone Parameters carries. -/
def zoneApply : CommandWrite → Option (State → State)
  | .zone z p => some fun s => s.withParams z p
  | _ => none

/-! ## Site parameters (R159) -/

/-- Set Site Parameters (R159). -/
def setSiteParameters (ops : List Byte) (s : State) : Except Reply CommandWrite :=
  match ops with
  | [miss, age, holdHi, holdLo, wf, ww, ws] =>
    let p := siteParamsOperand miss age holdHi holdLo wf ww ws
    if p = s.site then noChange else .ok (.site p)
  | _ => refuse .badFrame

/-- The working change that a write of Set Site Parameters carries. -/
def siteApply : CommandWrite → Option (State → State)
  | .site p => some fun s => s.withSite p
  | _ => none

/-! ## Cells (R29 to R31) -/

/-- Whether a channel is that of another cell that is not Absent (R31). -/
def State.channelTaken (s : State) (c : CellIx) (ch : Channel) : Bool :=
  allCells.any fun k => k != c && (s.cell k).state != .absent && (s.cell k).channel == ch

/-- Set Cell Channel, its checks in the order of R31. -/
def setCellChannel (ops : List Byte) (s : State) : Except Reply CommandWrite :=
  match ops with
  | [b, ch] => do
    let c ← cellTarget b
    s.checkFitted c
    check ((s.cell c).state == .off) .wrongState
    if h : ch.toNat < 32 then
      check (!s.channelTaken c ⟨ch.toNat, h⟩) .badValue
      if (s.cell c).channel = ⟨ch.toNat, h⟩ then noChange else return .channel c ⟨ch.toNat, h⟩
    else refuse .badValue
  | _ => refuse .badFrame

/-- The working change that a write of Set Cell Channel carries (R31). -/
def channelApply : CommandWrite → Option (State → State)
  | .channel c ch => some fun s => s.modCell c fun r => { r with channel := ch }
  | _ => none

/-- Stop Cell (R29). -/
def stopCell (ops : List Byte) (s : State) : Except Reply (Reply × State) :=
  match ops with
  | [b] => do
    let c ← cellTarget b
    s.checkFitted c
    let r := s.cell c
    match r.state with
    | .running => .ok (doneReply, s.setCell c { r with state := .stopping })
    | .stopping => noChange
    | .off => if r.startPending then .ok (doneReply, s.setCell c { r with startPending := false }) else noChange
    | .failed => .ok (doneReply, s.setCell c { r with state := .off, unconfirmed := 0 })
    | .absent => refuse .cellAbsent
  | _ => refuse .badFrame

/-- Start Cell (R30). -/
def startCell (ops : List Byte) (s : State) : Except Reply (Reply × State) :=
  match ops with
  | [b] => do
    let c ← cellTarget b
    s.checkFitted c
    let r := s.cell c
    match r.state with
    | .off => if r.startPending then noChange else .ok (doneReply, s.setCell c { r with startPending := true })
    | .stopping => .ok (doneReply, s.setCell c { r with state := .running })
    | .running => noChange
    | .failed => noChange
    | .absent => refuse .cellAbsent
  | _ => refuse .badFrame

/-! ## Restart (R166) -/

/-- Restart (R166): answered DONE at once; the link executes it until start-up. -/
def restart (h : FrameHead) (s : State) : Except Reply (Reply × State) :=
  .ok (doneReply,
    { s.setPort h.link { s.port h.link with executing := some (.restart, h.tag) } with restart := .pending })

/-! ## Meanings -/

/-- ENROL_DEVICE (R7). -/
def execEnrolDevice (h : FrameHead) (ops : List Byte) (s : State) : Host.Outcome State Fault Refusal :=
  .next (s.writeCommand h .enrolDevice ops (enrolDevice ops))

/-- ENROL_DEVICE_WRITE_END (R8). -/
def execEnrolDeviceWriteEnd (verified : Bool) (s : State) : Host.Outcome State Fault Refusal :=
  .next (s.whenRunning fun s => s.commandWriteEnd verified enrolApply)

/-- REMOVE_DEVICE (R14). -/
def execRemoveDevice (h : FrameHead) (ops : List Byte) (s : State) : Host.Outcome State Fault Refusal :=
  .next (s.writeCommand h .removeDevice ops (removeDevice ops))

/-- REMOVE_DEVICE_WRITE_END (R15). -/
def execRemoveDeviceWriteEnd (verified : Bool) (s : State) : Host.Outcome State Fault Refusal :=
  .next (s.whenRunning fun s => s.commandWriteEnd verified removeApply)

/-- MOVE_DEVICE (R17). -/
def execMoveDevice (h : FrameHead) (ops : List Byte) (s : State) : Host.Outcome State Fault Refusal :=
  .next (s.command h .moveDevice ops (moveDevice ops))

/-- CANCEL_MOVE (R21). -/
def execCancelMove (h : FrameHead) (ops : List Byte) (s : State) : Host.Outcome State Fault Refusal :=
  .next (s.command h .cancelMove ops (cancelMove ops))

/-- PIN_ROUTE (R59). -/
def execPinRoute (h : FrameHead) (ops : List Byte) (s : State) : Host.Outcome State Fault Refusal :=
  .next (s.writeCommand h .pinRoute ops (pinRoute ops))

/-- PIN_ROUTE_WRITE_END (R59). -/
def execPinRouteWriteEnd (verified : Bool) (s : State) : Host.Outcome State Fault Refusal :=
  .next (s.whenRunning fun s => s.commandWriteEnd verified pinApply)

/-- UNPIN_ROUTE (R60). -/
def execUnpinRoute (h : FrameHead) (ops : List Byte) (s : State) : Host.Outcome State Fault Refusal :=
  .next (s.writeCommand h .unpinRoute ops (unpinRoute ops))

/-- UNPIN_ROUTE_WRITE_END (R60). -/
def execUnpinRouteWriteEnd (verified : Bool) (s : State) : Host.Outcome State Fault Refusal :=
  .next (s.whenRunning fun s => s.commandWriteEnd verified unpinApply)

/-- SET_ZONE_PARAMETERS (R92). -/
def execSetZoneParameters (h : FrameHead) (ops : List Byte) (s : State) : Host.Outcome State Fault Refusal :=
  .next (s.writeCommand h .setZoneParameters ops (setZoneParameters ops))

/-- SET_ZONE_PARAMETERS_WRITE_END (R93). -/
def execSetZoneParametersWriteEnd (verified : Bool) (s : State) : Host.Outcome State Fault Refusal :=
  .next (s.whenRunning fun s => s.commandWriteEnd verified zoneApply)

/-- SET_SITE_PARAMETERS (R159). -/
def execSetSiteParameters (h : FrameHead) (ops : List Byte) (s : State) : Host.Outcome State Fault Refusal :=
  .next (s.writeCommand h .setSiteParameters ops (setSiteParameters ops))

/-- SET_SITE_PARAMETERS_WRITE_END (R159). -/
def execSetSiteParametersWriteEnd (verified : Bool) (s : State) : Host.Outcome State Fault Refusal :=
  .next (s.whenRunning fun s => s.commandWriteEnd verified siteApply)

/-- SET_CELL_CHANNEL (R31). -/
def execSetCellChannel (h : FrameHead) (ops : List Byte) (s : State) : Host.Outcome State Fault Refusal :=
  .next (s.writeCommand h .setCellChannel ops (setCellChannel ops))

/-- SET_CELL_CHANNEL_WRITE_END (R31). -/
def execSetCellChannelWriteEnd (verified : Bool) (s : State) : Host.Outcome State Fault Refusal :=
  .next (s.whenRunning fun s => s.commandWriteEnd verified channelApply)

/-- STOP_CELL (R29). -/
def execStopCell (h : FrameHead) (ops : List Byte) (s : State) : Host.Outcome State Fault Refusal :=
  .next (s.command h .stopCell ops (stopCell ops))

/-- START_CELL (R30). -/
def execStartCell (h : FrameHead) (ops : List Byte) (s : State) : Host.Outcome State Fault Refusal :=
  .next (s.command h .startCell ops (startCell ops))

/-- RESTART (R166). -/
def execRestart (h : FrameHead) (ops : List Byte) (s : State) : Host.Outcome State Fault Refusal :=
  .next (s.command h .restart ops (restart h))

end Sys2Proof.Machine
end

