-- ==== Sys2Proof/Machine/Timers.lean ====
section
/-! DEFINITION. Timers and the store's own steps: the enrolment deadline (R11), the corroboration lapse (R108), profile
and test expiries (R110, R111), the start of a waiting write (R169) and the end of a roster write (R168). A
timer's step changes nothing before its time (log 3). -/

namespace Sys2Proof.Machine

/-! ## Enrolment deadline (R11) -/

/-- Whether the enrolment deadline of an entry has been reached (R11). -/
def State.deadlineReached (s : State) (i : DevIx) : Bool :=
  (s.dev i).life == .enrolling &&
    match (s.dev i).deadline with
    | some t => t ≤ s.runClock
    | none => false

/-- Whether a device has a route entry naming relay number p. -/
def Device.names (d : Device) (p : Path) : Bool := (d.routes.find p).isSome

/-- The indices whose stored entries an enrolment time-out changes: the entry, and for a Repeater those whose route
entries are deleted (R11; log 28). -/
def State.timeOutSet (s : State) (i : DevIx) : List DevIx :=
  allDevs.filter fun k => k = i || ((s.dev i).kind == .repeater && (s.dev k).names (s.dev i).relay)

/-- The end of an enrolment at its deadline (R11). -/
def State.timeOut (s : State) (i : DevIx) : State :=
  let d := s.dev i
  let t := s.setDev i d.vacated
  let u := if d.kind = .repeater then t.dropRelay i d.relay else t
  (u.requestRoster (s.timeOutSet i)).create (.enrolmentTimedOut i)

/-! ## Expiries (R110, R111) -/

/-- Whether a zone's Service profile has reached its expiry (R110). -/
def State.profileExpired (s : State) (z : ZoneIx) : Bool :=
  (s.zone z).profile == .service &&
    match (s.zone z).profileExpiry with
    | some t => t ≤ s.runClock
    | none => false

/-- The return of a zone to its Normal profile (R110). -/
def State.endProfile (s : State) (z : ZoneIx) : State :=
  (s.modZone z fun r => { r with profile := .normal, profileExpiry := none }).create
    (.profileChanged z .normal none 0)

/-- The test of a zone whose expiry has been reached (R111). -/
def State.expiredTest (s : State) (z : ZoneIx) : Option ZoneTest :=
  (s.zone z).test.filter fun x => x.expiry ≤ s.runClock

/-! ## Store (R168, R169) -/

/-- The start of the waiting request that was made first (R169). -/
def State.startWaiting (s : State) : State :=
  match s.store.active, s.store.waiting with
  | none, j :: js => { s with store := { s.store with waiting := js } }.startWrite j
  | _, _ => s

/-- The end of a roster write (R168): a failed verify flags its indices. -/
def State.rosterWriteEnd (s : State) (verified : Bool) : State :=
  match s.store.active with
  | some { job := .roster ixs, .. } =>
    if verified then s.endWrite true else (s.endWrite false).markOutstanding ixs true
  | _ => s

/-! ## Meanings -/

/-- ENROLMENT_DEADLINE (R11). -/
def execEnrolmentDeadline (i : DevIx) (s : State) : Host.Outcome State Fault Refusal :=
  .next (s.whenRunning fun s => if s.deadlineReached i then s.timeOut i else s)

/-- CORROBORATION_LAPSE (R108). -/
def execCorroborationLapse (z : ZoneIx) (s : State) : Host.Outcome State Fault Refusal :=
  .next (s.whenRunning fun s => if s.windowExpired z then s.lapse z else s)

/-- PROFILE_EXPIRY (R110). -/
def execProfileExpiry (z : ZoneIx) (s : State) : Host.Outcome State Fault Refusal :=
  .next (s.whenRunning fun s => if s.profileExpired z then s.endProfile z else s)

/-- TEST_EXPIRY (R111). -/
def execTestExpiry (z : ZoneIx) (s : State) : Host.Outcome State Fault Refusal :=
  .next (s.whenRunning fun s =>
    match s.expiredTest z with
    | some x => s.endTestOf z x.owner .expiry
    | none => s)

/-- STORE_WRITE_START (R169). -/
def execStoreWriteStart (s : State) : Host.Outcome State Fault Refusal :=
  .next (s.whenRunning State.startWaiting)

/-- ROSTER_WRITE_END (R168). -/
def execRosterWriteEnd (verified : Bool) (s : State) : Host.Outcome State Fault Refusal :=
  .next (s.whenRunning fun s => s.rosterWriteEnd verified)

end Sys2Proof.Machine
end

