-- ==== Sys2Proof/Machine/StartUp.lean ====
section
/-! DEFINITION. Power, reset and start-up (09, section 9.3): holding the part (R170), selecting the image in force
(R171), probing the transceivers (R172) and restoring the working state (R173). -/

namespace Sys2Proof.Machine

/-! ## Holding (R170) -/

/-- Loss of power or assertion of the reset input (R170): the part is held; a write in progress and the requests
behind it are lost, and the bank being written stays without a whole image. -/
def State.hold (s : State) : State :=
  { s with phase := .held, store := { s.store with active := none, waiting := [] } }

/-! ## Selecting the image (R171) -/

/-- Whether bank 0's image is the newer of two (R171): its number is the other's plus 1, or the numbers are not
adjacent and it is the greater. Equal numbers: Config.equalNumbersZeroNewer (log 23). -/
def zeroIsNewer (a b : BitVec 16) : Bool :=
  if a = b then Config.equalNumbersZeroNewer else if a = b + 1 then true else if b = a + 1 then false else b ≤ a

/-- The bank whose image is in force at start-up (R171). -/
def Store.select (x : Store) : Option BankNo :=
  match x.bank0.image, x.bank1.image with
  | some a, some b => some (if zeroIsNewer a.number b.number then .zero else .one)
  | some _, none => some .zero
  | none, some _ => some .one
  | none, none => none

/-- The store after the selection: the configuration-invalid flag is set when no image is in force (R171). -/
def Store.selected (x : Store) : Store :=
  { x with current := x.select, invalid := x.select.isNone, active := none, waiting := [] }

/-- The start of start-up (R171, R172): the image in force is selected and the four transceivers are probed. -/
def State.beginStartUp (s : State) : State :=
  { s with phase := .probing (Vector.replicate 4 false), store := s.store.selected }

/-! ## The probe (R172) -/

/-- The answer of cell c's transceiver, in time (R172). -/
def State.probeAnswered (s : State) (c : CellIx) : State :=
  match s.phase with
  | .probing answered => { s with phase := .probing (answered.set c true) }
  | .held => s
  | .running => s

/-- The default configuration (R171). -/
def defaultImage : Image where
  roster := Vector.replicate 192 none
  zones := Vector.replicate 32 {}
  channels := defaultChannels
  site := {}
  number := 0

/-- The lowest channel that satisfies ok. -/
def lowestChannel (ok : Channel → Bool) : Option Channel := (List.finRange 32).find? ok

/-- The channel of fitted cell c when the fitted cells below it have the channels listed (R172): the stored one
unless a lower-numbered fitted cell has it, and then the lowest that neither a lower-numbered fitted cell has nor a
higher-numbered fitted cell has stored. -/
def settleChannel (stored : Vector Channel 4) (fitted : Vector Bool 4) (below : List Channel) (c : CellIx) :
    Channel :=
  if stored[c] ∈ below then
    (lowestChannel fun ch => ch ∉ below ∧ ∀ k ∈ allCells, c < k → fitted[k] → stored[k] ≠ ch).getD stored[c]
  else stored[c]

/-- The channels of the cells settled in cell-number order; an Absent cell keeps its stored channel (R172). -/
def settledChannels (stored : Vector Channel 4) (fitted : Vector Bool 4) : Vector Channel 4 :=
  let settle (below : List Channel) (c : CellIx) : List Channel :=
    if fitted[c] then below ++ [settleChannel stored fitted below c] else below
  Vector.ofFn fun c =>
    if fitted[c] then settleChannel stored fitted ((allCells.filter (· < c)).foldl settle []) c else stored[c]

/-! ## Restoring (R173) -/

/-- The record of an index restored from its stored entry (R173, R2): Calibrating when granted and Enrolling
otherwise, with its pinned routes (R54), and holding Unsupervised when it is granted and its cell is Absent
(R53). -/
def restoredDevice (e : Option StoredEntry) (fitted : Bool) : Device :=
  match e with
  | none => {}
  | some e =>
    { e.fresh with
      life := if e.granted then .calibrating else .enrolling
      deadline := if e.granted then none else some 2400
      faults := { unsupervised := e.granted && !fitted }
      routes := { first := restoredRoute e.pinFirst, second := restoredRoute e.pinSecond } }

/-- The working state restored from an image with the cells that answered, before the schedule starts (R173, R26,
R91, R153). -/
def State.restoredFrom (s : State) (im : Image) (fitted : Vector Bool 4) (key : Bool) : State where
  phase := .running
  restart := .idle
  time := {}
  runClock := 0
  siteTime := 0
  key := key
  roster := Vector.ofFn fun i => restoredDevice im.roster[i] fitted[homeCell i]
  zones := Vector.ofFn fun z => { params := im.zones[z] }
  siteCount := 0
  cells := Vector.ofFn fun c =>
    { state := if fitted[c] then .running else .absent, channel := (settledChannels im.channels fitted)[c] }
  site := im.site
  events := []
  nextSeq := 0
  portA := {}
  portB := {}
  portS := {}
  panelA := {}
  panelB := {}
  store := s.store
  pending := s.pending

/-- The end of the probe (R172, R173): the working state is restored from the image in force or from the default
configuration, the cycle slot records are prepared (R41) and the first beacons requested. -/
def State.finishStartUp (s : State) (key : Bool) : State :=
  match s.phase with
  | .probing answered =>
    let t := s.restoredFrom (s.store.inForce.getD defaultImage) answered key
    allCells.foldl State.requestBeacon (allCells.foldl State.prepareSlots t)
  | .held => s
  | .running => s

/-! ## Meanings -/

/-- POWER_LOSS_OR_RESET (R170). -/
def execPowerLossOrReset (s : State) : Host.Outcome State Fault Refusal := .next s.hold

/-- START_UP (R171): it begins from the held part. -/
def execStartUp (s : State) : Host.Outcome State Fault Refusal :=
  .next (if s.phase = .held then s.beginStartUp else s)

/-- RESTART_START_UP (R170): it begins at the boundary that the pending restart has reached (log 21). -/
def execRestartStartUp (s : State) : Host.Outcome State Fault Refusal :=
  .next (s.whenRunning fun s => if s.restart = .due then s.beginStartUp else s)

/-- PROBE_ANSWER (R172). -/
def execProbeAnswer (c : CellIx) (s : State) : Host.Outcome State Fault Refusal := .next (s.probeAnswered c)

/-- PROBE_TIMEOUT (R172). -/
def execProbeTimeout (key : Bool) (s : State) : Host.Outcome State Fault Refusal := .next (s.finishStartUp key)

end Sys2Proof.Machine
end

