-- ==== Sys2Proof/Machine/Frames.lean ====
section
/-! DEFINITION. Bytes and frames (08, section 8.1): the frame receiver (R149), the link CRC check (R150), the frame of a
code (R155), and the meanings of UNKNOWN_COMMAND_FRAME, BUSY_FRAME, FRAME_CRC_DISCARD, FRAME_GAP_TIMEOUT,
FRAME_BYTE_RECEIVED and RESPONSE_WHOLLY_SENT. -/

namespace Sys2Proof.Machine

/-! ## Taking a frame by its code -/

/-- A taken frame of a known command: the meaning of that command (R155, R175). -/
def takeCommand (c : Command) (h : FrameHead) (ops : List Byte) (s : State) : Host.Outcome State Fault Refusal :=
  match c with
  | .readStatus => execReadStatus h ops s
  | .readDevice => execReadDevice h ops s
  | .readZone => execReadZone h ops s
  | .readCell => execReadCell h ops s
  | .readRoute => execReadRoute h ops s
  | .readIdentity => execReadIdentity h ops s
  | .attach => execAttach h ops s
  | .detach => execDetach h ops s
  | .fetchEvent => execFetchEvent h ops s
  | .acknowledgeZone => execAcknowledgeZone h ops s
  | .resetZone => execResetZone h ops s
  | .acknowledgeAll => execAcknowledgeAll h ops s
  | .resetAll => execResetAll h ops s
  | .disableDevice => execDisableDevice h ops s
  | .enableDevice => execEnableDevice h ops s
  | .disableZone => execDisableZone h ops s
  | .enableZone => execEnableZone h ops s
  | .startTest => execStartTest h ops s
  | .endTest => execEndTest h ops s
  | .selectProfile => execSelectProfile h ops s
  | .setTime => execSetTime h ops s
  | .clearCellStatistics => execClearCellStatistics h ops s
  | .enrolDevice => execEnrolDevice h ops s
  | .removeDevice => execRemoveDevice h ops s
  | .moveDevice => execMoveDevice h ops s
  | .cancelMove => execCancelMove h ops s
  | .pinRoute => execPinRoute h ops s
  | .unpinRoute => execUnpinRoute h ops s
  | .setZoneParameters => execSetZoneParameters h ops s
  | .setSiteParameters => execSetSiteParameters h ops s
  | .setCellChannel => execSetCellChannel h ops s
  | .stopCell => execStopCell h ops s
  | .startCell => execStartCell h ops s
  | .clearDisablements => execClearDisablements h ops s
  | .restart => execRestart h ops s

/-- A taken frame whose code is unknown: check 1 passes it and check 2 refuses it (R155). -/
def State.refuseUnknown (s : State) (h : FrameHead) : State :=
  s.whenRunning fun s => s.onFrame h fun s => s.reply h { result := .unknownCommand }

/-- A complete frame whose CRC agrees, by its code (R150, R152, R155). -/
def takeFrame (h : FrameHead) (code : Byte) (ops : List Byte) (s : State) : Host.Outcome State Fault Refusal :=
  match Command.ofCode code with
  | some c => takeCommand c h ops s
  | none => .next (s.refuseUnknown h)

/-! ## The frame receiver (R149) -/

/-- The receiver after a byte that does not complete a frame; in Check the byte taken is the first CRC byte
(R149). -/
def Receiver.take (r : Receiver) (b : Byte) : Receiver :=
  match r with
  | .hunting => if b = 0xC3 then .length else .hunting
  | .length => if 3 ≤ b.toNat ∧ b.toNat ≤ 60 then .body b.toNat [] else .hunting
  | .body n got => if got.length + 1 < n then .body n (got ++ [b]) else .check n (got ++ [b]) none
  | .check n got none => .check n got (some b)
  | .check _ _ (some _) => .hunting

/-- The CRC of a received frame: over its length byte and the bytes from the tag on (R150). -/
def frameCrc (n : Nat) (got : List Byte) : BitVec 16 := crc16 (BitVec.ofNat 8 n :: got)

/-- The bytes of a command frame as a link sends them: lead, length, tag, claimed level, code, operands and CRC
(R149, R150, section 10.2). -/
def commandFrame (h : FrameHead) (code : Byte) (ops : List Byte) : List Byte :=
  let got := h.tag :: h.level :: code :: ops
  let crc := frameCrc got.length got
  0xC3 :: BitVec.ofNat 8 got.length :: (got ++ [crc.extractLsb' 8 8, crc.extractLsb' 0 8])

/-- A frame of bytes from the tag on, complete with its CRC agreeing: tag, claimed level, code and operands
(section 10.2). -/
def takeBytes (l : Link) (key : Bool) (got : List Byte) (s : State) : Host.Outcome State Fault Refusal :=
  match got with
  | tag :: level :: code :: ops => takeFrame { link := l, key := key, tag := tag, level := level } code ops s
  | _ => .next (s.hunt l)

/-- A byte received on a link (R149, R150): the second CRC byte completes the frame, which is taken when its CRC
agrees and discarded otherwise; any other byte moves the receiver. -/
def byteReceived (l : Link) (key : Bool) (b : Byte) (s : State) : Host.Outcome State Fault Refusal :=
  match (s.port l).rx with
  | .check n got (some high) =>
    if be16 high b = frameCrc n got then takeBytes l key got s else .next (s.hunt l)
  | r => .next (s.setPort l { s.port l with rx := r.take b })

/-! ## Meanings -/

/-- UNKNOWN_COMMAND_FRAME (R155); a known code is taken as its command (log 26). -/
def execUnknownCommandFrame (h : FrameHead) (code : Byte) (ops : List Byte) (s : State) :
    Host.Outcome State Fault Refusal :=
  takeFrame h code ops s

/-- BUSY_FRAME (R152): the frame of any code; a link that is not busy takes it as the frame it is (log 26). -/
def execBusyFrame (h : FrameHead) (code : Byte) (ops : List Byte) (s : State) : Host.Outcome State Fault Refusal :=
  takeFrame h code ops s

/-- FRAME_CRC_DISCARD (R150): the receiver returns to Hunting and nothing else changes (log 26). -/
def execFrameCrcDiscard (l : Link) (s : State) : Host.Outcome State Fault Refusal :=
  .next (s.whenRunning fun s => s.hunt l)

/-- FRAME_GAP_TIMEOUT (R149): the frame in reception is abandoned. -/
def execFrameGapTimeout (l : Link) (s : State) : Host.Outcome State Fault Refusal :=
  .next (s.whenRunning fun s => s.hunt l)

/-- FRAME_BYTE_RECEIVED (R149); a byte that completes a frame has the frame taken (log 1). -/
def execFrameByteReceived (l : Link) (key : Bool) (b : Byte) (s : State) : Host.Outcome State Fault Refusal :=
  if s.phase = .running then byteReceived l key b s else .next s

/-- RESPONSE_WHOLLY_SENT (R151): the oldest held response has been sent. -/
def execResponseWhollySent (l : Link) (s : State) : Host.Outcome State Fault Refusal :=
  .next (s.whenRunning fun s => s.setPort l { s.port l with responses := (s.port l).responses.drop 1 })

end Sys2Proof.Machine
end

