-- ==== Sys2Proof/Machine/Dispatch.lean ====
section
/-! DEFINITION. The dispatch: one arm for each command, each one direct call of its meaning. -/

namespace Sys2Proof.Machine

def exec (i : Instr) (s : State) : Host.Outcome State Fault Refusal :=
  match i with
  | .readStatus h ops => Sys2Proof.Machine.execReadStatus h ops s
  | .readDevice h ops => Sys2Proof.Machine.execReadDevice h ops s
  | .readZone h ops => Sys2Proof.Machine.execReadZone h ops s
  | .readCell h ops => Sys2Proof.Machine.execReadCell h ops s
  | .readRoute h ops => Sys2Proof.Machine.execReadRoute h ops s
  | .readIdentity h ops => Sys2Proof.Machine.execReadIdentity h ops s
  | .attach h ops => Sys2Proof.Machine.execAttach h ops s
  | .detach h ops => Sys2Proof.Machine.execDetach h ops s
  | .fetchEvent h ops => Sys2Proof.Machine.execFetchEvent h ops s
  | .acknowledgeZone h ops => Sys2Proof.Machine.execAcknowledgeZone h ops s
  | .resetZone h ops => Sys2Proof.Machine.execResetZone h ops s
  | .acknowledgeAll h ops => Sys2Proof.Machine.execAcknowledgeAll h ops s
  | .resetAll h ops => Sys2Proof.Machine.execResetAll h ops s
  | .disableDevice h ops => Sys2Proof.Machine.execDisableDevice h ops s
  | .enableDevice h ops => Sys2Proof.Machine.execEnableDevice h ops s
  | .disableZone h ops => Sys2Proof.Machine.execDisableZone h ops s
  | .enableZone h ops => Sys2Proof.Machine.execEnableZone h ops s
  | .startTest h ops => Sys2Proof.Machine.execStartTest h ops s
  | .endTest h ops => Sys2Proof.Machine.execEndTest h ops s
  | .selectProfile h ops => Sys2Proof.Machine.execSelectProfile h ops s
  | .setTime h ops => Sys2Proof.Machine.execSetTime h ops s
  | .clearCellStatistics h ops => Sys2Proof.Machine.execClearCellStatistics h ops s
  | .enrolDevice h ops => Sys2Proof.Machine.execEnrolDevice h ops s
  | .enrolDeviceWriteEnd verified => Sys2Proof.Machine.execEnrolDeviceWriteEnd verified s
  | .removeDevice h ops => Sys2Proof.Machine.execRemoveDevice h ops s
  | .removeDeviceWriteEnd verified => Sys2Proof.Machine.execRemoveDeviceWriteEnd verified s
  | .moveDevice h ops => Sys2Proof.Machine.execMoveDevice h ops s
  | .cancelMove h ops => Sys2Proof.Machine.execCancelMove h ops s
  | .pinRoute h ops => Sys2Proof.Machine.execPinRoute h ops s
  | .pinRouteWriteEnd verified => Sys2Proof.Machine.execPinRouteWriteEnd verified s
  | .unpinRoute h ops => Sys2Proof.Machine.execUnpinRoute h ops s
  | .unpinRouteWriteEnd verified => Sys2Proof.Machine.execUnpinRouteWriteEnd verified s
  | .setZoneParameters h ops => Sys2Proof.Machine.execSetZoneParameters h ops s
  | .setZoneParametersWriteEnd verified => Sys2Proof.Machine.execSetZoneParametersWriteEnd verified s
  | .setSiteParameters h ops => Sys2Proof.Machine.execSetSiteParameters h ops s
  | .setSiteParametersWriteEnd verified => Sys2Proof.Machine.execSetSiteParametersWriteEnd verified s
  | .setCellChannel h ops => Sys2Proof.Machine.execSetCellChannel h ops s
  | .setCellChannelWriteEnd verified => Sys2Proof.Machine.execSetCellChannelWriteEnd verified s
  | .stopCell h ops => Sys2Proof.Machine.execStopCell h ops s
  | .startCell h ops => Sys2Proof.Machine.execStartCell h ops s
  | .clearDisablements h ops => Sys2Proof.Machine.execClearDisablements h ops s
  | .restart h ops => Sys2Proof.Machine.execRestart h ops s
  | .unknownCommandFrame h code ops => Sys2Proof.Machine.execUnknownCommandFrame h code ops s
  | .busyFrame h code ops => Sys2Proof.Machine.execBusyFrame h code ops s
  | .frameCrcDiscard l => Sys2Proof.Machine.execFrameCrcDiscard l s
  | .frameGapTimeout l => Sys2Proof.Machine.execFrameGapTimeout l s
  | .linkSilence p => Sys2Proof.Machine.execLinkSilence p s
  | .receivedCopy c x => Sys2Proof.Machine.execReceivedCopy c x s
  | .downlinkAssembly c => Sys2Proof.Machine.execDownlinkAssembly c s
  | .transmitConfirm c t => Sys2Proof.Machine.execTransmitConfirm c t s
  | .intervalEnd => Sys2Proof.Machine.execIntervalEnd s
  | .superframeBoundary => Sys2Proof.Machine.execSuperframeBoundary s
  | .cycleBoundary => Sys2Proof.Machine.execCycleBoundary s
  | .enrolmentDeadline k => Sys2Proof.Machine.execEnrolmentDeadline k s
  | .corroborationLapse z => Sys2Proof.Machine.execCorroborationLapse z s
  | .profileExpiry z => Sys2Proof.Machine.execProfileExpiry z s
  | .testExpiry z => Sys2Proof.Machine.execTestExpiry z s
  | .storeWriteStart => Sys2Proof.Machine.execStoreWriteStart s
  | .rosterWriteEnd verified => Sys2Proof.Machine.execRosterWriteEnd verified s
  | .powerLossOrReset => Sys2Proof.Machine.execPowerLossOrReset s
  | .startUp => Sys2Proof.Machine.execStartUp s
  | .restartStartUp => Sys2Proof.Machine.execRestartStartUp s
  | .probeAnswer c => Sys2Proof.Machine.execProbeAnswer c s
  | .probeTimeout key => Sys2Proof.Machine.execProbeTimeout key s
  | .frameByteReceived l key b => Sys2Proof.Machine.execFrameByteReceived l key b s
  | .responseWhollySent l => Sys2Proof.Machine.execResponseWhollySent l s

end Sys2Proof.Machine
end

