-- ==== Sys2Proof/Safety.lean ====
section
/-! DEFINITION. What counts as a sound state of the part, in the terms that claims use: the laws that the manual states of
the Event Store (R135), of slot ownership (R1), of zone records (R106, R107, R110), of device records (R2, R3,
R46) and of the store's queue (R168, R169). -/

namespace Sys2Proof.Machine

/-! ## Event Store (R135) -/

/-- A stored event has a non-empty pending set containing only attached links (R135). -/
def State.eventSound (s : State) (e : Event) : Prop :=
  e.pending.isEmpty = false ∧ (e.pending.a = true → s.panelA.attached = true) ∧
    (e.pending.b = true → s.panelB.attached = true)

/-- The law of the Event Store (R135). -/
def State.storeSound (s : State) : Prop := s.events.length ≤ 256 ∧ ∀ e ∈ s.events, s.eventSound e

/-! ## Zone records -/

/-- A zone record has a first-latch time exactly while it is Alerted (R107), an acknowledgement only while it is in
alarm (R106), and a profile expiry exactly while its profile is Service (R110). -/
def Zone.sound (r : Zone) : Prop :=
  (r.firstLatch.isSome ↔ r.cond = .alerted) ∧ (r.ack.isSome → r.cond = .alerted ∨ r.cond = .fire) ∧
    (r.profileExpiry.isSome ↔ r.profile = .service)

/-- Every zone record is sound. -/
def State.zonesSound (s : State) : Prop := ∀ z, (s.zone z).sound

/-! ## Device records -/

/-- A record is sound: a Vacant one holds nothing but its store-outstanding flag (R3), a deadline is held exactly
while Enrolling (R2), moves and shadow slots are held by owning entries and not both at once (R2, R17), and the
miss count does not pass the limit (R46). -/
def Device.sound (d : Device) (missLimit : Nat) : Prop :=
  (d.life = .vacant → d = d.vacated) ∧ (d.deadline.isSome ↔ d.life = .enrolling) ∧
    (d.move.isSome → d.life.owns ∧ d.shadow = none) ∧ (d.shadow.isSome → d.life.owns) ∧
    d.missCount ≤ missLimit

/-- Every device record is sound. -/
def State.devicesSound (s : State) : Prop := ∀ i, (s.dev i).sound s.site.missLimit

/-! ## Slot ownership (R1) -/

/-- Whether some record has index i as its shadow slot or as the target of its move. -/
def Device.claims (d : Device) (i : DevIx) : Prop := d.shadow = some i ∨ d.movesTo i = true

/-- Every home slot is claimed by at most one device: a slot held as a shadow slot or reserved by a move belongs to a
Vacant index, and to one holder or mover alone (R1). -/
def State.slotsSound (s : State) : Prop :=
  ∀ i j, (s.dev j).claims i → (s.dev i).life = .vacant ∧ ∀ k, (s.dev k).claims i → k = j

/-! ## The store's queue (R168, R169) -/

/-- Whether a write request is a command write. -/
def WriteJob.isCommand : WriteJob → Bool
  | .command _ => true
  | .roster _ => false

/-- The requests that are in progress or waiting, first made first. -/
def Store.jobs (x : Store) : List WriteJob := (x.active.map fun w => w.job).toList ++ x.waiting

/-- The command writes that are in progress or waiting. -/
def Store.commandJobs (x : Store) : List WriteJob := x.jobs.filter WriteJob.isCommand

/-- At most one command write is in progress or waiting, and while there is one Link S executes its command (R169);
the index of an enrolment being written is free and stays so (R7, R8); while the part does not run no write is in
progress or waiting (R170). -/
def State.queueSound (s : State) : Prop :=
  s.store.commandJobs.length ≤ 1 ∧
    (s.store.commandJobs ≠ [] → s.portS.executing.isSome) ∧
    (∀ i e, WriteJob.command (.enrol i e) ∈ s.store.jobs → s.isFree i = true) ∧
    (s.phase ≠ .running → s.store.jobs = [])

/-! ## Supervision (R53) -/

/-- An owning entry holds Unsupervised exactly when its home cell is Off, Failed or Absent (R53). -/
def State.supervisionSound (s : State) : Prop :=
  ∀ i, (s.dev i).life.owns = true →
    ((s.dev i).faults.unsupervised = true ↔
      (s.cell (homeCell i)).state = .off ∨ (s.cell (homeCell i)).state = .failed ∨
        (s.cell (homeCell i)).state = .absent)

/-! ## The ownership law -/

/-- The roster is sound: records, slot ownership and the queue of writes that will change it. -/
def State.rosterSound (s : State) : Prop := s.devicesSound ∧ s.slotsSound ∧ s.queueSound

/-! ## When a link takes a command -/

/-- The state that a taken frame leaves before its command is carried out: the receiver in Hunting, and the last
frame time of a panel link or the key sample of Link S set (R146, R149, R154). -/
def State.taken (s : State) (h : FrameHead) : State := (s.hunt h.link).frameTakenOn h

/-- A frame of command c is taken on its link and passes the level checks: the part runs, no restart is pending, the
link is Ready and holds fewer than four responses, and the claimed level lies within the grant and meets the
requirement (R151, R152, R154, R155). -/
def State.takes (s : State) (h : FrameHead) (c : Command) : Prop :=
  s.phase = .running ∧ s.restart = .idle ∧ (s.port h.link).executing = none ∧
    (s.port h.link).responses.length < 4 ∧ h.level.toNat ≤ h.link.grant h.key ∧ c.level h.link ≤ h.level.toNat

/-- A link on which a response can be produced as the next it holds (R151). -/
def State.answers (s : State) (l : Link) : Prop := (s.port l).responses.length < 4

/-- The state with a response added at the end of those a link holds (R151). -/
def State.sends (s : State) (l : Link) (tag : Byte) (r : Reply) : State :=
  s.setPort l { s.port l with responses := (s.port l).responses ++ [{ tag := tag, reply := r }] }

/-- What a zone reset does to a device record: a member's latch and verification are cleared (R87, R116). -/
def resetRecord (z : ZoneIx) (d : Device) : Device :=
  if d.life ≠ .vacant ∧ d.kind ≠ .repeater ∧ d.zone = z then
    { d with
      cond := if d.cond = .fireLatched then .quiet else d.cond
      verif := if d.kind = .smoke then {} else d.verif }
  else d

/-- What a writing command that has passed its checks leaves: its link executing it under the frame's tag, its write in
progress or waiting behind those requested before it, and nothing else changed; no response is produced (R152,
R169). -/
def State.writeRequested (s : State) (h : FrameHead) (c : Command) (w : CommandWrite)
    (out : Host.Outcome State Fault Refusal) : Prop :=
  ∃ x : Store, out = .next { (s.taken h).setPort h.link
      { (s.taken h).port h.link with executing := some (c, h.tag) } with store := x } ∧
    x.jobs = s.store.jobs ++ [.command w] ∧ x.current = s.store.current ∧ x.inForce = s.store.inForce

/-- A frame refused with a reply: the reply is sent and nothing else changes (R156). -/
def State.refuses (s : State) (h : FrameHead) (r : Result) (value : Nat) (out : Host.Outcome State Fault Refusal) :
    Prop :=
  out = .next ((s.taken h).sends h.link h.tag { result := r, value := value })

/-- The state in which Link S has answered the command it executed and is Ready again (R152). -/
def State.completes (s : State) (tag : Byte) (r : Result) : State :=
  { s with portS := { s.portS with
      executing := none, responses := s.portS.responses ++ [{ tag := tag, reply := { result := r } }] } }

/-- What radio steps, timers, boundaries and write ends leave of the links and the site: the phase, the key sample, the
site parameters, the three ports, the queue, and of each panel link everything but its lost flags. -/
def State.keepsLinks (s t : State) : Prop :=
  t.phase = s.phase ∧ t.key = s.key ∧ t.site = s.site ∧ t.portA = s.portA ∧ t.portB = s.portB ∧ t.portS = s.portS ∧
    t.pending = s.pending ∧ t.panelA = { s.panelA with lost := t.panelA.lost } ∧
    t.panelB = { s.panelB with lost := t.panelB.lost }

/-- What every step but INTERVAL_END and start-up leaves of the clocks: the run clock, Site Time and a restart. -/
def State.keepsClocks (s t : State) : Prop :=
  t.runClock = s.runClock ∧ t.siteTime = s.siteTime ∧ t.restart = s.restart

/-- A record that differs in its Unsupervised cause alone (R52, R53). -/
def Device.sameButUnsupervised (d e : Device) : Prop :=
  e = { d with faults := { d.faults with unsupervised := e.faults.unsupervised } }

/-- State t has the events, the next sequence number and the delivery state of the panel links that s has. -/
def State.sameEvents (s t : State) : Prop :=
  t.events = s.events ∧ t.nextSeq = s.nextSeq ∧ t.panelA = s.panelA ∧ t.panelB = s.panelB

/-- The event of the change that brings the Unsupervised cause of a record at index i into line with its home cell
(R52, R53). -/
def unsupervisedChange (d : Device) (i : DevIx) (home : Cell) : List EventBody :=
  if home.state = .running ∨ home.state = .stopping then
    if d.faults.unsupervised = true then [.deviceRestored i (.cause .unsupervised)] else []
  else if d.faults.unsupervised = true then [] else [.deviceFault i .unsupervised]

/-- The slot of the entry at index i is closed and counted at the end of the report interval of a slot: its cell operates,
and it owns the slot, whose record is not Unowned (R43). -/
abbrev State.slotCounted (s : State) (slot : Slot) (i : DevIx) : Prop :=
  homeSlot i = slot ∧ ((s.cell (homeCell i)).state = .running ∨ (s.cell (homeCell i)).state = .stopping) ∧
    (s.dev i).life.owns = true ∧ (s.cell (homeCell i)).slots[slot] ≠ .unowned

/-- The slot close of a slot declares the entry at index i Missing (R48). -/
abbrev State.slotDeclares (s : State) (slot : Slot) (i : DevIx) : Prop :=
  s.slotCounted slot i ∧ (s.dev i).heard = false ∧ (s.dev i).life ≠ .missing ∧
    s.site.missLimit ≤ (s.dev i).missCount + 1

/-- The relay-lost flag of that declaration (R49): the entry has a route entry, and each names the relay number of a
Repeater entry that is Missing, those of lower-numbered cells that the same slot close declares among them (log 6) and
the entry itself not (log 40). -/
abbrev State.relayLostAt (s : State) (slot : Slot) (i : DevIx) : Prop :=
  let routes := (s.dev i).routes.first.toList ++ (s.dev i).routes.second.toList
  routes ≠ [] ∧ ∀ r ∈ routes, r.path ≠ 0 ∧ ∃ k, (s.dev k).kind = .repeater ∧ (s.dev k).relay = r.path ∧
    ((s.dev k).life = .missing ∨ (homeCell k < homeCell i ∧ s.slotDeclares slot k))

/-- The path of a route entry that is pinned. -/
def pathIfPinned : Option Route → Option Path
  | some r => if r.pinned = true then some r.path else none
  | none => none

/-- The stored entry that a record's working content makes: none for a Vacant one, else its identity, kind, zone, relay
number, granted flag and pinned routes by position (R167, R168). -/
def Device.configured (d : Device) : Option StoredEntry :=
  if d.life = .vacant then none
  else some { identity := d.identity, kind := d.kind, zone := d.zone, relay := d.relay, granted := d.granted
              pinFirst := pathIfPinned d.routes.first, pinSecond := pathIfPinned d.routes.second }

/-- What a pin of path p makes of two route positions (R59): an entry for p is pinned and keeps its other fields; else a
pinned entry with quality 0 and age 0 takes the first free position, or that of the unpinned entry of lower quality,
then greater age, then the second (R56); two pinned entries stay. -/
def routesPinned (x : RoutePair) (p : Path) : RoutePair :=
  let new : Route := { path := p, quality := 0, age := 0, delivered := false, pinned := true }
  let here := fun r : Route => if r.path = p then { r with pinned := true } else r
  match x.first, x.second with
  | none, none => { first := some new, second := none }
  | none, some b => if b.path = p then { first := none, second := some (here b) } else { x with first := some new }
  | some a, none => if a.path = p then { first := some (here a), second := none } else { x with second := some new }
  | some a, some b =>
    if a.path = p ∨ b.path = p then { first := some (here a), second := some (here b) }
    else if a.pinned = true ∧ b.pinned = true then x
    else if a.pinned = true then { x with second := some new }
    else if b.pinned = true then { x with first := some new }
    else if a.quality < b.quality ∨ (a.quality = b.quality ∧ b.age < a.age) then { x with first := some new }
    else { x with second := some new }

/-- What an unpin of path p makes of two route positions (R60): the pinned flag of an entry for p is cleared. -/
def routesUnpinned (x : RoutePair) (p : Path) : RoutePair where
  first := x.first.map fun r => if r.path = p then { r with pinned := false } else r
  second := x.second.map fun r => if r.path = p then { r with pinned := false } else r

/-- The write of a command is in progress, Link S executes the command under a tag and can hold the response. -/
def State.writing (s : State) (w : CommandWrite) (tag : Byte) : Prop :=
  s.phase = .running ∧ (s.store.active.map fun a => a.job) = some (.command w) ∧
    (∃ c, s.portS.executing = some (c, tag)) ∧ s.answers .S

/-- The copy x of frame f is examined and accepted by cell c, and matched to entry i (R33 to R35). -/
def acceptedCopy (s : State) (c : CellIx) (x : Copy) (u : Uplink) (f : Sample) (i : DevIx) (via : SlotKind) : Prop :=
  s.phase = .running ∧ ((s.cell c).state = .running ∨ (s.cell c).state = .stopping) ∧ (s.cell c).deaf = false ∧
    x.taken.val < 3758 ∧ s.time.tick.val < 3758 ∧ s.time.interval ≠ 0 ∧ x.good = true ∧
    Uplink.parse x.bytes = some u ∧ (u = .report f ∨ u = .alarm f) ∧ (s.cell c).work.length < 3 ∧
    (∀ w ∈ (s.cell c).work, w.path ≠ f.path) ∧ s.copyOutcome c u x.arrival = .accepted ∧
    s.matchCopy c u = some (i, via)

/-- The copy x is examined and accepted as the frame f of entry i: the first of its identity in the interval, in whichever
cell (R36; log 44). -/
def acceptedFirst (s : State) (c : CellIx) (x : Copy) (u : Uplink) (f : Sample) (i : DevIx) (via : SlotKind) : Prop :=
  acceptedCopy s c x u f i via ∧ ∀ b, ∀ g ∈ (s.cell b).frames, g.identity ≠ f.identity

end Sys2Proof.Machine
end

