-- ==== Sys2Proof/WellFormed.lean ====
section
/-! DEFINITION. What makes a command presented to the part one that its world can present: the number of operand bytes a
frame can carry (section 10.2, R149), a code that is unknown for an unknown frame (R155), and the transmissions
that a Transmit Confirm can name (R25, R45). -/

namespace Sys2Proof

/-- The most operand bytes a command frame carries (section 10.2). -/
def maxOperands : Nat := 57

/-- Whether a frame can carry the operand bytes. -/
def opsFit (ops : List Byte) : Bool := ops.length ≤ maxOperands

/-- Whether a transmission is one the part requests: a beacon at tick 655 of interval 0, or a downlink at tick 5898
of another interval (R25, R45). -/
def TxName.wf (t : TxName) : Bool :=
  if t.interval = 0 then t.tick.val = 655 else t.tick.val = 5898

/-- Whether a command is well formed. -/
def Instr.wf : Instr → Bool
  | .readStatus _ ops => opsFit ops
  | .readDevice _ ops => opsFit ops
  | .readZone _ ops => opsFit ops
  | .readCell _ ops => opsFit ops
  | .readRoute _ ops => opsFit ops
  | .readIdentity _ ops => opsFit ops
  | .attach _ ops => opsFit ops
  | .detach _ ops => opsFit ops
  | .fetchEvent _ ops => opsFit ops
  | .acknowledgeZone _ ops => opsFit ops
  | .resetZone _ ops => opsFit ops
  | .acknowledgeAll _ ops => opsFit ops
  | .resetAll _ ops => opsFit ops
  | .disableDevice _ ops => opsFit ops
  | .enableDevice _ ops => opsFit ops
  | .disableZone _ ops => opsFit ops
  | .enableZone _ ops => opsFit ops
  | .startTest _ ops => opsFit ops
  | .endTest _ ops => opsFit ops
  | .selectProfile _ ops => opsFit ops
  | .setTime _ ops => opsFit ops
  | .clearCellStatistics _ ops => opsFit ops
  | .enrolDevice _ ops => opsFit ops
  | .enrolDeviceWriteEnd _ => true
  | .removeDevice _ ops => opsFit ops
  | .removeDeviceWriteEnd _ => true
  | .moveDevice _ ops => opsFit ops
  | .cancelMove _ ops => opsFit ops
  | .pinRoute _ ops => opsFit ops
  | .pinRouteWriteEnd _ => true
  | .unpinRoute _ ops => opsFit ops
  | .unpinRouteWriteEnd _ => true
  | .setZoneParameters _ ops => opsFit ops
  | .setZoneParametersWriteEnd _ => true
  | .setSiteParameters _ ops => opsFit ops
  | .setSiteParametersWriteEnd _ => true
  | .setCellChannel _ ops => opsFit ops
  | .setCellChannelWriteEnd _ => true
  | .stopCell _ ops => opsFit ops
  | .startCell _ ops => opsFit ops
  | .clearDisablements _ ops => opsFit ops
  | .restart _ ops => opsFit ops
  | .unknownCommandFrame _ code ops => opsFit ops && (Command.ofCode code).isNone
  | .busyFrame _ _ ops => opsFit ops
  | .frameCrcDiscard _ => true
  | .frameGapTimeout _ => true
  | .linkSilence _ => true
  | .receivedCopy _ _ => true
  | .downlinkAssembly _ => true
  | .transmitConfirm _ t => t.wf
  | .intervalEnd => true
  | .superframeBoundary => true
  | .cycleBoundary => true
  | .enrolmentDeadline _ => true
  | .corroborationLapse _ => true
  | .profileExpiry _ => true
  | .testExpiry _ => true
  | .storeWriteStart => true
  | .rosterWriteEnd _ => true
  | .powerLossOrReset => true
  | .startUp => true
  | .restartStartUp => true
  | .probeAnswer _ => true
  | .probeTimeout _ => true
  | .frameByteReceived _ _ _ => true
  | .responseWhollySent _ => true

/-- The frame a command arrives as, if it is a link command or another taken frame: head, code and operands
(R175). -/
def Instr.frame : Instr → Option (FrameHead × Byte × List Byte)
  | .readStatus h ops => some (h, Command.readStatus.code, ops)
  | .readDevice h ops => some (h, Command.readDevice.code, ops)
  | .readZone h ops => some (h, Command.readZone.code, ops)
  | .readCell h ops => some (h, Command.readCell.code, ops)
  | .readRoute h ops => some (h, Command.readRoute.code, ops)
  | .readIdentity h ops => some (h, Command.readIdentity.code, ops)
  | .attach h ops => some (h, Command.attach.code, ops)
  | .detach h ops => some (h, Command.detach.code, ops)
  | .fetchEvent h ops => some (h, Command.fetchEvent.code, ops)
  | .acknowledgeZone h ops => some (h, Command.acknowledgeZone.code, ops)
  | .resetZone h ops => some (h, Command.resetZone.code, ops)
  | .acknowledgeAll h ops => some (h, Command.acknowledgeAll.code, ops)
  | .resetAll h ops => some (h, Command.resetAll.code, ops)
  | .disableDevice h ops => some (h, Command.disableDevice.code, ops)
  | .enableDevice h ops => some (h, Command.enableDevice.code, ops)
  | .disableZone h ops => some (h, Command.disableZone.code, ops)
  | .enableZone h ops => some (h, Command.enableZone.code, ops)
  | .startTest h ops => some (h, Command.startTest.code, ops)
  | .endTest h ops => some (h, Command.endTest.code, ops)
  | .selectProfile h ops => some (h, Command.selectProfile.code, ops)
  | .setTime h ops => some (h, Command.setTime.code, ops)
  | .clearCellStatistics h ops => some (h, Command.clearCellStatistics.code, ops)
  | .enrolDevice h ops => some (h, Command.enrolDevice.code, ops)
  | .enrolDeviceWriteEnd _ => none
  | .removeDevice h ops => some (h, Command.removeDevice.code, ops)
  | .removeDeviceWriteEnd _ => none
  | .moveDevice h ops => some (h, Command.moveDevice.code, ops)
  | .cancelMove h ops => some (h, Command.cancelMove.code, ops)
  | .pinRoute h ops => some (h, Command.pinRoute.code, ops)
  | .pinRouteWriteEnd _ => none
  | .unpinRoute h ops => some (h, Command.unpinRoute.code, ops)
  | .unpinRouteWriteEnd _ => none
  | .setZoneParameters h ops => some (h, Command.setZoneParameters.code, ops)
  | .setZoneParametersWriteEnd _ => none
  | .setSiteParameters h ops => some (h, Command.setSiteParameters.code, ops)
  | .setSiteParametersWriteEnd _ => none
  | .setCellChannel h ops => some (h, Command.setCellChannel.code, ops)
  | .setCellChannelWriteEnd _ => none
  | .stopCell h ops => some (h, Command.stopCell.code, ops)
  | .startCell h ops => some (h, Command.startCell.code, ops)
  | .clearDisablements h ops => some (h, Command.clearDisablements.code, ops)
  | .restart h ops => some (h, Command.restart.code, ops)
  | .unknownCommandFrame h code ops => some (h, code, ops)
  | .busyFrame h code ops => some (h, code, ops)
  | .frameCrcDiscard _ => none
  | .frameGapTimeout _ => none
  | .linkSilence _ => none
  | .receivedCopy _ _ => none
  | .downlinkAssembly _ => none
  | .transmitConfirm _ _ => none
  | .intervalEnd => none
  | .superframeBoundary => none
  | .cycleBoundary => none
  | .enrolmentDeadline _ => none
  | .corroborationLapse _ => none
  | .profileExpiry _ => none
  | .testExpiry _ => none
  | .storeWriteStart => none
  | .rosterWriteEnd _ => none
  | .powerLossOrReset => none
  | .startUp => none
  | .restartStartUp => none
  | .probeAnswer _ => none
  | .probeTimeout _ => none
  | .frameByteReceived _ _ _ => none
  | .responseWhollySent _ => none

end Sys2Proof
end

