-- ==== Sys2Proof/Certificates/Slice0/Obligations.lean ====
section
/-! DEFINITION. The statements for the provers, in the order of the spec's chapters. `s.taken h` is the state that a taken
frame leaves before its command is carried out, `s.takes h c` says when a frame of command c is taken and passes the
level checks, and `s.sends l tag r` adds a response to those a link holds (Safety.lean). -/

open Sys2Proof Sys2Proof.Machine

/-! ## The step and the queue -/

/-- A step carries out the command at the front of the queue, on the state with the queue's rest. -/
def Obligations.StepRunsFrontCommand : Prop :=
  ∀ (c : Instr) (s : State), step { s with pending := c :: s.pending } = exec c s

/-- What State.reset leaves, and what start-up makes of it when no transceiver answers: held, then running on the
default configuration, detached, with an empty store and the configuration-invalid flag set (R170, R171, R173). That
the banks are erased at reset is the model's choice, log 4. -/
def Obligations.ResetThenStartUpDefaults : Prop :=
  State.reset.phase = .held ∧
    ∃ t u, exec .startUp State.reset = .next t ∧ exec (.probeTimeout false) t = .next u ∧
      u.phase = .running ∧ u.store.invalid = true ∧ u.store.current = none ∧ u.events = [] ∧ u.nextSeq = 0 ∧
      u.runClock = 0 ∧ u.siteTime = 0 ∧ u.siteCount = 0 ∧ u.time = {} ∧ u.site = {} ∧
      u.panelA = {} ∧ u.panelB = {} ∧ u.portA = {} ∧ u.portB = {} ∧ u.portS = {} ∧
      (∀ i, u.dev i = {}) ∧ (∀ z, u.zone z = {}) ∧
      (∀ c, (u.cell c).state = .absent ∧ (u.cell c).channel.val = 3 + 7 * c.val ∧ (u.cell c).stats = {})

/-! ## Every link command (R155 to R158) -/

/-- A frame of any known command that a Ready link takes is answered by at most one response: the link's responses
stay as they are or gain exactly one. When that response is anything but DONE nothing else has changed than what the
frame itself sets (R156, R157). -/
def Obligations.AnythingButDoneChangesNothing : Prop :=
  ∀ (c : Command) (h : FrameHead) (ops : List Byte) (s : State), s.phase = .running → s.restart = .idle →
    (s.port h.link).executing = none → s.answers h.link →
    ∃ t, takeCommand c h ops s = .next t ∧
      ((t.port h.link).responses = (s.port h.link).responses ∨
        ∃ r : Reply, (t.port h.link).responses = (s.port h.link).responses ++ [{ tag := h.tag, reply := r }]) ∧
      ∀ r : Reply, (t.port h.link).responses = (s.port h.link).responses ++ [{ tag := h.tag, reply := r }] →
        r.result ≠ .done → t = (s.taken h).sends h.link h.tag r

/-- The first four checks of R155, in their order, for a frame of a known command: operand count, grant,
requirement. Each refusal is answered with value 0 and no data. A taken frame whose code is in no row of the code
table is refused UNKNOWN_COMMAND, whatever its level and operand count (R155). -/
def Obligations.LinkChecksInOrder : Prop :=
  (∀ (c : Command) (h : FrameHead) (ops : List Byte) (s : State), s.phase = .running → s.restart = .idle →
      (s.port h.link).executing = none → s.answers h.link →
      (ops.length ≠ c.operands →
        takeCommand c h ops s = .next ((s.taken h).sends h.link h.tag { result := .badFrame })) ∧
      (ops.length = c.operands → h.link.grant h.key < h.level.toNat →
        takeCommand c h ops s = .next ((s.taken h).sends h.link h.tag { result := .levelNotGranted })) ∧
      (ops.length = c.operands → h.level.toNat ≤ h.link.grant h.key → h.level.toNat < c.level h.link →
        takeCommand c h ops s = .next ((s.taken h).sends h.link h.tag { result := .levelTooLow }))) ∧
  (∀ (s : State) (h : FrameHead) (code : Byte) (ops : List Byte), s.phase = .running → s.restart = .idle →
      (s.port h.link).executing = none → s.answers h.link → (∀ c : Command, c.code ≠ code) →
      exec (.unknownCommandFrame h code ops) s =
        .next ((s.taken h).sends h.link h.tag { result := .unknownCommand }))

/-- Restart is answered DONE at once and Link S then executes it; nothing else changes until its boundary (R166). A
frame of any code on a link that executes a command, or on any link while a restart is pending, is answered BUSY
with the code of the command in progress, unchecked, and changes nothing else; and it still sets the last frame time
of a panel link (R152, R156, R166). -/
def Obligations.BusyFramesAnsweredUnchecked : Prop :=
  (∀ (s : State) (h : FrameHead), s.takes h .restart →
      let u := s.taken h
      exec (.restart h []) s = .next (({ u.setPort h.link { u.port h.link with
        executing := some (.restart, h.tag) } with restart := .pending }).sends h.link h.tag { result := .done })) ∧
  (∀ (s : State) (h : FrameHead) (code : Byte) (ops : List Byte), s.phase = .running → s.answers h.link →
      let busy := fun c : Command => .next ((s.taken h).sends h.link h.tag
        { result := .busy, value := c.code.toNat })
      (s.restart ≠ .idle → exec (.busyFrame h code ops) s = busy .restart) ∧
      (∀ c tag, s.restart = .idle → (s.port h.link).executing = some (c, tag) →
        exec (.busyFrame h code ops) s = busy c) ∧
      ∀ p, panelOf h.link = some p → ((s.taken h).panel p).lastFrame = s.runClock)

/-! ## Queries (R160 to R165) -/

/-- A query that passes its checks is answered DONE with its value and data, and changes nothing but what its frame
sets. A target out of range is BAD_TARGET with the target. -/
def Obligations.QueriesAnswerWithoutChange : Prop :=
  ∀ (s : State) (h : FrameHead) (b : Byte),
    let u := s.taken h
    (s.takes h .readStatus → exec (.readStatus h []) s =
      .next (u.sends h.link h.tag { result := .done, value := u.siteCount.toNat, data := u.statusData })) ∧
    (s.takes h .readIdentity → exec (.readIdentity h []) s =
      .next (u.sends h.link h.tag { result := .done, value := 0, data := u.identityData })) ∧
    (s.takes h .readDevice → exec (.readDevice h [b]) s = .next (u.sends h.link h.tag
      (if hb : b.toNat < 192 then
        { result := .done, value := (u.dev ⟨b.toNat, hb⟩).life.code, data := u.deviceData ⟨b.toNat, hb⟩ }
      else { result := .badTarget, value := b.toNat }))) ∧
    (s.takes h .readZone → exec (.readZone h [b]) s = .next (u.sends h.link h.tag
      (if hb : b.toNat < 32 then
        { result := .done, value := (u.zone ⟨b.toNat, hb⟩).generation.toNat, data := u.zoneData ⟨b.toNat, hb⟩ }
      else { result := .badTarget, value := b.toNat }))) ∧
    (s.takes h .readCell → exec (.readCell h [b]) s = .next (u.sends h.link h.tag
      (if hb : b.toNat < 4 then
        { result := .done, value := (u.cell ⟨b.toNat, hb⟩).state.code, data := u.cellData ⟨b.toNat, hb⟩ }
      else { result := .badTarget, value := b.toNat }))) ∧
    (s.takes h .readRoute → exec (.readRoute h [b]) s = .next (u.sends h.link h.tag
      (if hb : b.toNat < 192 then
        { result := .done, value := (u.dev ⟨b.toNat, hb⟩).routes.preferred.val, data := u.routesData ⟨b.toNat, hb⟩ }
      else { result := .badTarget, value := b.toNat })))

/-! ## Attachment and delivery (07) -/

/-- Attach from a detached panel link sets it attached with the event weights as credits; from an attached one it is
NO_CHANGE; from Link S it is WRONG_STATE (R144). That the summary in the answer shows the state after the command is
the model's choice, log 36. Detach from an attached panel link is answered DONE and detaches it; from a detached one
it is NO_CHANGE; from Link S it is WRONG_STATE (R145). Link silence detaches an attached panel link 80 quarters
after its last frame and not before (R146). The detachment of a panel link p (R145 steps 1 to 4, R147), as Detach
and link silence both take it: attachment, credits and lost flags are cleared, the link leaves every pending set,
events left without a link leave the store, and LinkDetached is created when the other link is attached. -/
def Obligations.AttachmentDecided : Prop :=
  (∀ (s : State) (h : FrameHead), s.takes h .attach →
      let u := s.taken h
      (h.link = .S → exec (.attach h []) s = .next (u.sends h.link h.tag { result := .wrongState })) ∧
      ∀ p, panelOf h.link = some p →
        if (s.panel p).attached then
          exec (.attach h []) s = .next (u.sends h.link h.tag
            { result := .noChange, value := s.siteCount.toNat, data := u.statusData })
        else
          let v := u.setPanel p { u.panel p with
            attached := true
            credits := { fault := s.site.wFault, warning := s.site.wWarning, status := s.site.wStatus } }
          (u.panel p).lastFrame = s.runClock ∧
            exec (.attach h []) s = .next (v.sends h.link h.tag
              { result := .done, value := s.siteCount.toNat, data := v.statusData })) ∧
  (∀ (s : State) (h : FrameHead), s.takes h .detach →
      let u := s.taken h
      (h.link = .S → exec (.detach h []) s = .next (u.sends h.link h.tag { result := .wrongState })) ∧
      ∀ p, panelOf h.link = some p →
        exec (.detach h []) s =
          if (s.panel p).attached then
            .next ((u.detachPanel p .command).sends h.link h.tag { result := .done })
          else .next (u.sends h.link h.tag { result := .noChange })) ∧
  (∀ (s : State) (p : Panel), s.phase = .running →
      exec (.linkSilence p) s =
        if (s.panel p).attached ∧ (s.panel p).lastFrame + 80 ≤ s.runClock then .next (s.detachPanel p .silence)
        else .next s) ∧
  (∀ (s : State) (p : Panel) (cause : DetachCause),
      let v : State := { s.setPanel p { s.panel p with attached := false, credits := {}, lost := {} } with
        events := (s.events.map fun e => { e with pending := e.pending.remove p }).filter
          fun e => !e.pending.isEmpty }
      s.detachPanel p cause =
          (if (s.panel (otherPanel p)).attached then v.create (.linkDetached p cause) else v) ∧
        ∀ e ∈ (s.detachPanel p cause).events, e.pending.has p = false)

/-- A Fetch Event with a Fire event pending for the link delivers the oldest of them and leaves the credits; the
link leaves its pending set, the event leaves the store when the set is empty, and the lost flags are returned and
cleared (R140, R142). A Fetch Event with nothing pending carries the lost flags and no event, and clears them; it is
NO_CHANGE when all were clear and DONE when one was set; from a link that is not attached, and from Link S, it is
NOT_ATTACHED (R139). -/
def Obligations.FetchDeliversOldestFireFirst : Prop :=
  (∀ (s : State) (h : FrameHead) (p : Panel) (older newer : List Event) (e : Event), s.takes h .fetchEvent →
      panelOf h.link = some p → (s.panel p).attached = true → s.events = older ++ e :: newer →
      e.body.cls = .fire → e.pending.has p = true →
      (∀ x ∈ older, x.pending.has p = true → x.body.cls ≠ .fire) →
      let u := s.taken h
      let rest := e.pending.remove p
      let v : State := { u.setPanel p { u.panel p with lost := {} } with
        events := older ++ (if rest.isEmpty then [] else [{ e with pending := rest }]) ++ newer }
      exec (.fetchEvent h []) s = .next (v.sends h.link h.tag
        { result := .done
          value := (v.events.filter fun x => x.pending.has p).length
          data := BitVec.ofNat 8 (s.panel p).lost.code :: e.record })) ∧
  (∀ (s : State) (h : FrameHead), s.takes h .fetchEvent →
      let u := s.taken h
      (h.link = .S → exec (.fetchEvent h []) s = .next (u.sends h.link h.tag { result := .notAttached })) ∧
      ∀ p, panelOf h.link = some p →
        ((s.panel p).attached = false →
          exec (.fetchEvent h []) s = .next (u.sends h.link h.tag { result := .notAttached })) ∧
        ((s.panel p).attached = true → (∀ e ∈ s.events, e.pending.has p = false) →
          exec (.fetchEvent h []) s = .next ((u.setPanel p { u.panel p with lost := {} }).sends h.link h.tag
            { result := if (s.panel p).lost = {} then .noChange else .done
              value := 0
              data := [BitVec.ofNat 8 (s.panel p).lost.code] })))

/-- Without a Fire event pending, the credits choose the class in the order Fault, Warning, Status: the first with
credit and an event pending, its credit falling by 1; when no pending class has credit the credits are reloaded from
the event weights and the first pending class is chosen. The oldest event of the class is delivered (R141, R142).
The weights are at least 1 in every site parameter set (R143). -/
def Obligations.FetchChoosesByCredit : Prop :=
  ∀ (s : State) (h : FrameHead) (p : Panel) (c : EventClass) (older newer : List Event) (e : Event),
    s.takes h .fetchEvent → panelOf h.link = some p → (s.panel p).attached = true →
    (∀ x ∈ s.events, x.pending.has p = true → x.body.cls ≠ .fire) →
    s.events = older ++ e :: newer → e.body.cls = c → e.pending.has p = true →
    (∀ x ∈ older, x.pending.has p = true → x.body.cls ≠ c) →
    1 ≤ s.site.wFault → 1 ≤ s.site.wWarning → 1 ≤ s.site.wStatus →
    let pends := fun k : EventClass => ∃ x ∈ s.events, x.pending.has p = true ∧ x.body.cls = k
    let before := fun k : EventClass => c.code < k.code
    let credits := (s.panel p).credits
    let weights : Credits := { fault := s.site.wFault, warning := s.site.wWarning, status := s.site.wStatus }
    let left : Credits → Prop := fun x =>
      let u := s.taken h
      let rest := e.pending.remove p
      let v : State := { u.setPanel p { u.panel p with lost := {}, credits := x.spend c } with
        events := older ++ (if rest.isEmpty then [] else [{ e with pending := rest }]) ++ newer }
      exec (.fetchEvent h []) s = .next (v.sends h.link h.tag
        { result := .done
          value := (v.events.filter fun x => x.pending.has p).length
          data := BitVec.ofNat 8 (s.panel p).lost.code :: e.record })
    (0 < credits.of c → (∀ k, before k → pends k → credits.of k = 0) → left credits) ∧
      ((∀ k, pends k → credits.of k = 0) → (∀ k, before k → ¬pends k) → left weights)

/-! ## Events (R131 to R138) -/

/-- A created event takes the next sequence number, its pending set is the links attached at that moment, and it is
stored last when a link is attached and the store is not full; with no link attached nothing is stored and no lost
flag is raised. Nothing but the store's own fields changes (R132, R134, R135). Overflow (R136, R137): an event
created while 256 are stored and a link is attached displaces the oldest event of the lowest class among the stored
events that are not Fire and not above its own class, and is lost itself when there is none. The lost flag of the
lost event's class is raised for the links in the lost event's pending set. -/
def Obligations.EventsCreatedAndOverflow : Prop :=
  (∀ (s : State) (b : EventBody), s.events.length < 256 →
      s.create b =
        if s.panelA.attached = false ∧ s.panelB.attached = false then { s with nextSeq := s.nextSeq + 1 }
        else
          { s with
            nextSeq := s.nextSeq + 1
            events := s.events ++ [{ seq := s.nextSeq, siteTime := s.siteTime, body := b,
                                     pending := { a := s.panelA.attached, b := s.panelB.attached } }] }) ∧
  (∀ (s : State) (b : EventBody) (older newer : List Event) (v : Event), 256 ≤ s.events.length →
      (s.panelA.attached = true ∨ s.panelB.attached = true) →
      let e : Event := { seq := s.nextSeq, siteTime := s.siteTime, body := b,
                         pending := { a := s.panelA.attached, b := s.panelB.attached } }
      let candidate := fun x : Event => x.body.cls ≠ .fire ∧ x.body.cls.code ≤ b.cls.code
      let flags := fun (on : Bool) (d : Delivery) (c : EventClass) =>
        if on then { d with lost := d.lost.raise c } else d
      (s.events = older ++ v :: newer → candidate v →
        (∀ x ∈ older, candidate x → v.body.cls.code < x.body.cls.code) →
        (∀ x ∈ newer, candidate x → v.body.cls.code ≤ x.body.cls.code) →
        s.create b = { s with
          nextSeq := s.nextSeq + 1
          events := older ++ newer ++ [e]
          panelA := flags v.pending.a s.panelA v.body.cls
          panelB := flags v.pending.b s.panelB v.body.cls }) ∧
      ((∀ x ∈ s.events, ¬candidate x) →
        s.create b = { s with
          nextSeq := s.nextSeq + 1
          panelA := flags e.pending.a s.panelA b.cls
          panelB := flags e.pending.b s.panelB b.cls }))

/-! ## Operator actions (06) -/

/-- The checks that come before the operator commands' own (R112, R155 checks 5, 7 and 8): the target's range, then
a Vacant device, then the attachment of the sending panel link. -/
def Obligations.OperatorChecksBeforeTheirOwn : Prop :=
  ∀ (s : State) (c : Command) (h : FrameHead) (b : Byte) (rest : List Byte), s.takes h c →
    let u := s.taken h
    (c ∈ [Command.acknowledgeZone, .resetZone, .disableZone, .enableZone, .startTest, .endTest, .selectProfile] →
      (b :: rest).length = c.operands →
      (32 ≤ b.toNat → takeCommand c h (b :: rest) s =
        .next (u.sends h.link h.tag { result := .badTarget, value := b.toNat })) ∧
      (b.toNat < 32 → s.mayOperate h.link = false → takeCommand c h (b :: rest) s =
        .next (u.sends h.link h.tag { result := .notAttached }))) ∧
    (c ∈ [Command.disableDevice, .enableDevice] →
      (192 ≤ b.toNat → takeCommand c h [b] s =
        .next (u.sends h.link h.tag { result := .badTarget, value := b.toNat })) ∧
      (∀ i : DevIx, b.toNat = i.val → (s.dev i).life = .vacant → takeCommand c h [b] s =
        .next (u.sends h.link h.tag { result := .vacantTarget })) ∧
      (∀ i : DevIx, b.toNat = i.val → (s.dev i).life ≠ .vacant → s.mayOperate h.link = false →
        takeCommand c h [b] s = .next (u.sends h.link h.tag { result := .notAttached }))) ∧
    (c ∈ [Command.acknowledgeAll, .resetAll, .setTime] → (b :: rest).length = c.operands →
      s.mayOperate h.link = false →
      takeCommand c h (b :: rest) s = .next (u.sends h.link h.tag { result := .notAttached }))

/-- Acknowledge Zone is decided in the order of R113; every answer carries the zone's generation; taken, it records
the generation and the link and creates ZoneAcknowledged, changing nothing else. Reset Zone is decided in the order
of R115; taken, it clears every member latch, counted or not, and every smoke member's verification, creates
ZoneReset and recomputes the roll-up, with the generation unchanged (R116). -/
def Obligations.AcknowledgeAndResetZoneDecided : Prop :=
  (∀ (s : State) (h : FrameHead) (b ghi glo : Byte) (z : ZoneIx), s.takes h .acknowledgeZone →
      s.mayOperate h.link = true → b.toNat = z.val →
      let u := s.taken h
      let r := s.zone z
      let g := r.generation
      let say := fun (x : Result) (data : List Byte) (v : State) =>
        v.sends h.link h.tag { result := x, value := g.toNat, data := data }
      let ack : Ack := { generation := g, link := h.link }
      exec (.acknowledgeZone h [b, ghi, glo]) s = .next
        (if r.cond ≠ .fire ∧ r.cond ≠ .alerted then say .notInAlarm [] u
        else if ghi ++ glo ≠ g then say .stale [] u
        else
          match r.ack.filter fun a => a.generation = g with
          | some a => say .noChange [BitVec.ofNat 8 a.link.code] u
          | none =>
            say .done [BitVec.ofNat 8 h.link.code]
              ((u.setZone z { r with ack := some ack }).create (.zoneAcknowledged z g h.link)))) ∧
  (∀ (s : State) (h : FrameHead) (b ghi glo : Byte) (z : ZoneIx), s.takes h .resetZone →
      s.mayOperate h.link = true → b.toNat = z.val →
      let u := s.taken h
      let r := s.zone z
      let g := r.generation
      let say := fun (x : Result) (v : State) => v.sends h.link h.tag { result := x, value := g.toNat }
      exec (.resetZone h [b, ghi, glo]) s = .next
        (if r.cond ≠ .fire ∧ r.cond ≠ .alerted then say .notInAlarm u
        else if ghi ++ glo ≠ g then say .stale u
        else if (r.ack.map fun a => a.generation) ≠ some g then say .notAcknowledged u
        else
          say .done (((u.mapDevs fun _ d => resetRecord z d).create (.zoneReset z g h.link)).recompute z)))

/-- Acknowledge All and Reset All are guarded by the site alarm count; taken, they act on the zones in alarm in
zone-number order, Acknowledge All on those not yet acknowledged, Reset All only when every one is acknowledged
(R118, R119). -/
def Obligations.SiteWideActionsDecided : Prop :=
  ∀ (s : State) (h : FrameHead) (hi lo : Byte), s.mayOperate h.link = true →
    let u := s.taken h
    let inAlarm := allZones.filter fun z => decide ((s.zone z).cond = .fire ∨ (s.zone z).cond = .alerted)
    let unacknowledged := inAlarm.filter fun z =>
      decide (((s.zone z).ack.map fun a => a.generation) ≠ some (s.zone z).generation)
    let say := fun (x : Result) (n : Nat) (v : State) => v.sends h.link h.tag { result := x, value := n }
    (s.takes h .acknowledgeAll → exec (.acknowledgeAll h [hi, lo]) s = .next
      (if hi ++ lo ≠ s.siteCount then say .stale s.siteCount.toNat u
      else if unacknowledged = [] then say .noChange 0 u
      else say .done unacknowledged.length (unacknowledged.foldl (fun t z => t.acknowledgeBy h.link z) u))) ∧
    (s.takes h .resetAll → exec (.resetAll h [hi, lo]) s = .next
      (if hi ++ lo ≠ s.siteCount then say .stale s.siteCount.toNat u
      else if inAlarm = [] then say .noChange 0 u
      else
        match unacknowledged with
        | z :: _ => say .notAcknowledged z.val u
        | [] => say .done inAlarm.length (inAlarm.foldl (fun t z => t.resetBy h.link z) u)))

/-- Disable Device: a Repeater is WRONG_STATE, a link already in the set NO_CHANGE; else the link joins the set, and
when it was empty Disabled is created, an unlatched Smoke member's verification is cleared, and the zone is
recomputed when the device was counted. The value is the set after the command (R120). Enable Device: a link not in
the set is NO_CHANGE with the set; else it leaves the set, and when the set becomes empty Enabled is created and,
when the entry is now counted, a kept latch begins a counted latch with its standing level before the roll-up is
recomputed (R122, R102). What a kept latch carries when it begins (R102): the standing level is 0 for a last reading
that is a fault code, and else, with 254 taken as 250, the alarm level of R73 for Smoke, the reading for Heat and 1
for a Call Point; the elapsed time of verification is the last less the first candidate time for Smoke and 0 for the
other kinds. -/
def Obligations.DeviceDisablementDecided : Prop :=
  (∀ (s : State) (h : FrameHead) (b : Byte) (i : DevIx), s.takes h .disableDevice →
      s.mayOperate h.link = true → b.toNat = i.val → (s.dev i).life ≠ .vacant →
      let u := s.taken h
      let d := s.dev i
      let after := d.disabled.add h.link
      let say := fun (x : Result) (n : Nat) (v : State) => v.sends h.link h.tag { result := x, value := n }
      let d1 : Device := { d with disabled := after }
      let d2 : Device := { d1 with verif := if d.kind = .smoke ∧ d.cond ≠ .fireLatched then {} else d.verif }
      exec (.disableDevice h [b]) s = .next
        (if d.kind = .repeater then say .wrongState 0 u
        else if d.disabled.has h.link = true then say .noChange d.disabled.code u
        else if d.disabled = {} then
          let v := (u.setDev i d2).create (.deviceDisabled i h.link)
          say .done after.code (if s.counted i = true then v.recompute d.zone else v)
        else say .done after.code (u.setDev i d1))) ∧
  (∀ (s : State) (h : FrameHead) (b : Byte) (i : DevIx), s.takes h .enableDevice →
      s.mayOperate h.link = true → b.toNat = i.val → (s.dev i).life ≠ .vacant →
      let u := s.taken h
      let d := s.dev i
      let after := d.disabled.remove h.link
      let say := fun (x : Result) (n : Nat) (v : State) => v.sends h.link h.tag { result := x, value := n }
      let v := u.setDev i { d with disabled := after }
      let w := v.create (.deviceEnabled i h.link)
      exec (.enableDevice h [b]) s = .next
        (if d.kind = .repeater then say .wrongState 0 u
        else if d.disabled.has h.link = false then say .noChange d.disabled.code u
        else if after = {} then
          say .done after.code
            (if v.counted i = true then
              (if d.cond = .fireLatched then
                w.beginLatch i (standingLevel d (s.zone d.zone)) (keptElapsed d)
              else w).recompute d.zone
            else w)
        else say .done after.code v)) ∧
  (∀ (d : Device) (r : Zone),
      (∀ b t, d.lastReading = some (b, t) → b.toNat ∈ [251, 252, 255] → standingLevel d r = 0) ∧
      (∀ b t, d.lastReading = some (b, t) → b.toNat ≤ 250 ∨ b.toNat = 254 →
        let v := min 250 b.toNat
        (d.kind = .smoke → standingLevel d r = v - (match d.smoke.baseline with
          | some x => (x + 8) / 16
          | none => r.params.nominal)) ∧
        (d.kind = .heat → standingLevel d r = v) ∧ (d.kind = .callPoint → standingLevel d r = 1)) ∧
      (∀ first last, d.kind = .smoke → d.verif.first = some first → d.verif.last = some last →
        keptElapsed d = last - first) ∧
      (d.kind ≠ .smoke → keptElapsed d = 0))

/-- Disable Zone: a link already in the set is NO_CHANGE; else it joins the set, and when it was empty Disabled is
created, a test ends with TestEnded, unlatched Smoke members' verification is cleared, and the zone is recomputed
(R121). Enable Zone: a link not in the set is NO_CHANGE; else it leaves the set, and when the set becomes empty
Enabled is created, the latched members that are now counted begin counted latches in index order, and the roll-up
is recomputed once (R123, R102). Clear Disablements from Link S empties every disablement set of devices and zones;
NO_CHANGE when all were empty. It creates Enabled for each device whose set was not empty, in index order, then for
each such zone in zone-number order; then, zone by zone for the zones touched, the latched members that were not
counted and now are begin counted latches in index order with their standing levels, and the roll-up is recomputed
once. No other field of a device changes, nor any test, profile or parameter of a zone (R96, R102, R125). -/
def Obligations.ZoneDisablementDecided : Prop :=
  (∀ (s : State) (h : FrameHead) (b : Byte) (z : ZoneIx), s.takes h .disableZone →
      s.mayOperate h.link = true → b.toNat = z.val →
      let u := s.taken h
      let r := s.zone z
      let after := r.disabled.add h.link
      let say := fun (x : Result) (n : Nat) (v : State) => v.sends h.link h.tag { result := x, value := n }
      let clearUnlatched := fun (d : Device) =>
        if d.memberOf z = true ∧ d.kind = .smoke ∧ d.cond ≠ .fireLatched then { d with verif := {} } else d
      exec (.disableZone h [b]) s = .next
        (if r.disabled.has h.link = true then say .noChange r.disabled.code u
        else if r.disabled = {} then
          let v := (u.setZone z { r with disabled := after, test := none }).create (.zoneDisabled z h.link)
          let w := match r.test with
            | some x => v.create (.testEnded z x.owner .disablement)
            | none => v
          say .done after.code ((w.mapDevs fun _ d => clearUnlatched d).recompute z)
        else say .done after.code (u.setZone z { r with disabled := after }))) ∧
  (∀ (s : State) (h : FrameHead) (b : Byte) (z : ZoneIx), s.takes h .enableZone →
      s.mayOperate h.link = true → b.toNat = z.val →
      let u := s.taken h
      let r := s.zone z
      let after := r.disabled.remove h.link
      let say := fun (x : Result) (n : Nat) (v : State) => v.sends h.link h.tag { result := x, value := n }
      let v := u.setZone z { r with disabled := after }
      let latched := allDevs.filter fun i => decide
        ((s.dev i).memberOf z = true ∧ v.counted i = true ∧ (s.dev i).cond = .fireLatched)
      let begins := fun (t : State) (i : DevIx) =>
        t.beginLatch i (standingLevel (s.dev i) r) (keptElapsed (s.dev i))
      exec (.enableZone h [b]) s = .next
        (if r.disabled.has h.link = false then say .noChange r.disabled.code u
        else if after = {} then
          say .done after.code ((latched.foldl begins (v.create (.zoneEnabled z h.link))).recompute z)
        else say .done after.code v)) ∧
  (∀ (s : State) (h : FrameHead), s.takes h .clearDisablements →
      let u := s.taken h
      let ds := allDevs.filter fun i => decide ((s.dev i).disabled ≠ {})
      let zs := allZones.filter fun z => decide ((s.zone z).disabled ≠ {})
      let held := ds.length + zs.length
      let cleared : State := { u.mapDevs fun _ d => { d with disabled := {} } with
        zones := Vector.ofFn fun z => { s.zone z with disabled := {} } }
      let told := (cleared.createAll (ds.map fun i => .deviceEnabled i .S)).createAll
        (zs.map fun z => .zoneEnabled z .S)
      let touched := allZones.filter fun z => decide (z ∈ zs ∨ ∃ i ∈ ds, (s.dev i).memberOf z = true)
      let counts := fun (v : State) (z : ZoneIx) =>
        let latched := allDevs.filter fun i => decide ((s.dev i).memberOf z = true ∧ s.counted i = false ∧
          cleared.counted i = true ∧ (s.dev i).cond = .fireLatched)
        (latched.foldl (fun w i =>
          w.beginLatch i (standingLevel (s.dev i) (s.zone z)) (keptElapsed (s.dev i))) v).recompute z
      let t := touched.foldl counts told
      (held = 0 → exec (.clearDisablements h []) s = .next (u.sends h.link h.tag { result := .noChange })) ∧
      (held ≠ 0 → exec (.clearDisablements h []) s =
          .next (t.sends h.link h.tag { result := .done, value := held }) ∧
        (∀ i, t.dev i = { s.dev i with disabled := {} }) ∧
        (∀ z, (t.zone z).disabled = {} ∧ (t.zone z).test = (s.zone z).test ∧
          (t.zone z).profile = (s.zone z).profile ∧ (t.zone z).profileExpiry = (s.zone z).profileExpiry ∧
          (t.zone z).params = (s.zone z).params) ∧
        t.cells = s.cells ∧ t.store = s.store ∧ t.site = s.site ∧ t.time = s.time ∧ t.runClock = s.runClock))

/-- Start Test: refused ZONE_DISABLED in a disabled zone; a test of another link is WRONG_STATE with its owner;
without a test the zone is put under test with the duration clamped to 10 to 240 minutes, every member latch and
verification count cleared, TestStarted created and the zone recomputed; the owner's own test is extended when the
new expiry is later and is NO_CHANGE otherwise (R126, R127). End Test by the owner or by Link S ends the test with
TestEnded and recomputes the zone; another panel link is WRONG_STATE with the owner; without a test it is NO_CHANGE.
TEST_EXPIRY ends the test when the run clock reaches its expiry and not before (R111, R128). -/
def Obligations.TestsStartAndEnd : Prop :=
  (∀ (s : State) (h : FrameHead) (b m : Byte) (z : ZoneIx), s.takes h .startTest →
      s.mayOperate h.link = true → b.toNat = z.val →
      let u := s.taken h
      let r := s.zone z
      let minutes := max 10 (min 240 m.toNat)
      let expiry := s.runClock + 240 * minutes
      let say := fun (x : Result) (n : Nat) (v : State) => v.sends h.link h.tag { result := x, value := n }
      exec (.startTest h [b, m]) s = .next
        (if r.disabled ≠ {} then say .zoneDisabled 0 u
        else
          match r.test with
          | none =>
            say .done minutes
              ((((u.setZone z { r with test := some { owner := h.link, expiry := expiry } }).mapDevs
                fun _ d => resetRecord z d).create (.testStarted z h.link minutes)).recompute z)
          | some x =>
            if x.owner ≠ h.link then say .wrongState x.owner.code u
            else if x.expiry < expiry then
              say .done minutes (u.setZone z { r with test := some { owner := h.link, expiry := expiry } })
            else say .noChange 0 u)) ∧
  (∀ (s : State) (z : ZoneIx),
      let ended := fun (v : State) (owner : Link) (cause : TestEnd) =>
        ((v.setZone z { s.zone z with test := none }).create (.testEnded z owner cause)).recompute z
      (∀ (h : FrameHead) (b : Byte), s.takes h .endTest → s.mayOperate h.link = true → b.toNat = z.val →
        let u := s.taken h
        exec (.endTest h [b]) s = .next
          (match (s.zone z).test with
          | none => u.sends h.link h.tag { result := .noChange }
          | some x =>
            if x.owner ≠ h.link ∧ h.link ≠ .S then
              u.sends h.link h.tag { result := .wrongState, value := x.owner.code }
            else (ended u x.owner (.link h.link)).sends h.link h.tag { result := .done })) ∧
      (s.phase = .running →
        exec (.testExpiry z) s = .next
          (match (s.zone z).test with
          | none => s
          | some x => if x.expiry ≤ s.runClock then ended s x.owner .expiry else s)))

/-- Select Profile sets Service with an expiry of 15 to 240 minutes, or Normal without one, with ProfileChanged; an
unknown profile is BAD_VALUE, Normal on a Normal zone NO_CHANGE. PROFILE_EXPIRY returns a Service zone to Normal
when the run clock reaches its expiry and not before. Neither changes any device or condition (R110, R129). Set Time
sets Site Time to its four operand bytes, most significant first, and changes nothing else (R130). Clear Cell
Statistics sets the four counters of a cell to 0; NO_CHANGE when they are 0, CELL_ABSENT for an Absent cell,
BAD_TARGET above 3; it requires no attachment (R44). -/
def Obligations.ProfileTimeAndStatistics : Prop :=
  (∀ (s : State) (z : ZoneIx),
      let normal := fun (v : State) => v.setZone z { s.zone z with profile := .normal, profileExpiry := none }
      (∀ (h : FrameHead) (b p m : Byte), s.takes h .selectProfile → s.mayOperate h.link = true → b.toNat = z.val →
        let u := s.taken h
        let minutes := max 15 (min 240 m.toNat)
        exec (.selectProfile h [b, p, m]) s = .next
          (if 2 ≤ p.toNat then u.sends h.link h.tag { result := .badValue }
          else if p.toNat = 1 then
            ((u.setZone z { s.zone z with
              profile := .service, profileExpiry := some (s.runClock + 240 * minutes) }).create
              (.profileChanged z .service (some h.link) minutes)).sends h.link h.tag
              { result := .done, value := minutes }
          else if (s.zone z).profile = .normal then u.sends h.link h.tag { result := .noChange }
          else ((normal u).create (.profileChanged z .normal (some h.link) 0)).sends h.link h.tag
            { result := .done })) ∧
      (s.phase = .running →
        exec (.profileExpiry z) s = .next
          (if (s.zone z).profile = .service ∧ ∃ t ∈ (s.zone z).profileExpiry, t ≤ s.runClock then
            (normal s).create (.profileChanged z .normal none 0)
          else s))) ∧
  (∀ (s : State) (h : FrameHead) (a b c d : Byte), s.takes h .setTime → s.mayOperate h.link = true →
      exec (.setTime h [a, b, c, d]) s =
        .next ({ s.taken h with siteTime := a ++ b ++ c ++ d }.sends h.link h.tag { result := .done })) ∧
  (∀ (s : State) (h : FrameHead) (b : Byte), s.takes h .clearCellStatistics →
      let u := s.taken h
      (4 ≤ b.toNat → exec (.clearCellStatistics h [b]) s =
        .next (u.sends h.link h.tag { result := .badTarget, value := b.toNat })) ∧
      ∀ c : CellIx, b.toNat = c.val →
        exec (.clearCellStatistics h [b]) s = .next
          (if (s.cell c).state = .absent then u.sends h.link h.tag { result := .cellAbsent }
          else if (s.cell c).stats = { integrity := 0, window := 0, foreignId := 0, unmatched := 0 } then
            u.sends h.link h.tag { result := .noChange }
          else (u.setCell c { s.cell c with stats := { integrity := 0, window := 0, foreignId := 0, unmatched := 0 } }).sends
            h.link h.tag { result := .done }))

/-! ## Commissioning (01, 02, 03, 05, 08) -/

/-- Enrol Device is decided in the order of R7; one that passes requests the write of the new entry, granted flag
clear, before it is answered (R8). Remove Device: BAD_TARGET, VACANT_TARGET, else the write of the removal is
requested; the home cell's state is not checked (R14). -/
def Obligations.EnrolAndRemoveDecided : Prop :=
  (∀ (s : State) (h : FrameHead) (b i1 i2 i3 kind zr : Byte), s.takes h .enrolDevice →
      let out := exec (.enrolDevice h [b, i1, i2, i3, kind, zr]) s
      let identity : BitVec 24 := i1 ++ i2 ++ i3
      let relayFree := ∀ k, (s.dev k).life ≠ .vacant → (s.dev k).kind = .repeater → (s.dev k).relay.val ≠ zr.toNat
      let valueOk := (1 ≤ kind.toNat ∧ kind.toNat ≤ 3 ∧ zr.toNat < 32) ∨
        (kind.toNat = 4 ∧ 1 ≤ zr.toNat ∧ zr.toNat < 16 ∧ relayFree)
      (192 ≤ b.toNat → s.refuses h .badTarget b.toNat out) ∧
      ∀ i : DevIx, b.toNat = i.val →
        ((s.cell (homeCell i)).state = .absent → s.refuses h .cellAbsent 0 out) ∧
        ((s.cell (homeCell i)).state ≠ .absent →
          (s.isFree i = false → s.refuses h .slotTaken 0 out) ∧
          (s.isFree i = true →
            ((∃ k, (s.dev k).life ≠ .vacant ∧ (s.dev k).identity = identity) →
              s.refuses h .duplicateIdentity 0 out) ∧
            ((∀ k, (s.dev k).life ≠ .vacant → (s.dev k).identity ≠ identity) →
              (¬valueOk → s.refuses h .badValue 0 out) ∧
              (valueOk → ∃ e : StoredEntry, s.writeRequested h .enrolDevice (.enrol i e) out ∧
                e.identity = identity ∧ e.kind.code = kind.toNat ∧ e.granted = false ∧
                (e.kind = .repeater → e.relay.val = zr.toNat) ∧ (e.kind ≠ .repeater → e.zone.val = zr.toNat)))))) ∧
  (∀ (s : State) (h : FrameHead) (b : Byte), s.takes h .removeDevice →
      let out := exec (.removeDevice h [b]) s
      (192 ≤ b.toNat → s.refuses h .badTarget b.toNat out) ∧
      ∀ i : DevIx, b.toNat = i.val →
        ((s.dev i).life = .vacant → s.refuses h .vacantTarget 0 out) ∧
        ((s.dev i).life ≠ .vacant → s.writeRequested h .removeDevice
          (.remove i (s.dev i).identity (if (s.dev i).kind = .repeater then some (s.dev i).relay else none)) out))

/-- Move Device is decided in the order of R17; one that passes gives the entry a Pending move, and changes and
writes nothing else. Cancel Move drops a Pending move; an Announced one becomes a shadow slot held at its target;
without a move it is WRONG_STATE (R21). That the cycle slot record entry of the target slot becomes Unowned is the
model's reading of R41, log 22. -/
def Obligations.MoveAndCancelMoveDecided : Prop :=
  (∀ (s : State) (h : FrameHead) (bi bj : Byte), s.takes h .moveDevice →
      let out := exec (.moveDevice h [bi, bj]) s
      (192 ≤ bi.toNat → s.refuses h .badTarget bi.toNat out) ∧
      (bi.toNat < 192 → 192 ≤ bj.toNat → s.refuses h .badTarget bj.toNat out) ∧
      ∀ i j : DevIx, bi.toNat = i.val → bj.toNat = j.val →
        if (s.cell (homeCell j)).state = .absent then s.refuses h .cellAbsent 0 out
        else if (s.dev i).life = .vacant then s.refuses h .vacantTarget 0 out
        else if i = j then s.refuses h .badValue 0 out
        else if (s.dev i).life = .enrolling then s.refuses h .wrongState 0 out
        else if (s.dev i).move ≠ none ∨ (s.dev i).shadow ≠ none then s.refuses h .wrongState 0 out
        else if s.isFree j = false then s.refuses h .slotTaken 0 out
        else
          out = .next (((s.taken h).setDev i
            { s.dev i with move := some { target := j, stage := .pending } }).sends h.link h.tag { result := .done })) ∧
  (∀ (s : State) (h : FrameHead) (b : Byte), s.takes h .cancelMove →
      let out := exec (.cancelMove h [b]) s
      let u := s.taken h
      (192 ≤ b.toNat → s.refuses h .badTarget b.toNat out) ∧
      ∀ i : DevIx, b.toNat = i.val →
        ((s.dev i).life = .vacant → s.refuses h .vacantTarget 0 out) ∧
        ((s.dev i).life ≠ .vacant →
          ((s.dev i).move = none → s.refuses h .wrongState 0 out) ∧
          (∀ j, (s.dev i).move = some { target := j, stage := .pending } →
            out = .next ((u.setDev i { s.dev i with move := none }).sends h.link h.tag { result := .done })) ∧
          (∀ j, (s.dev i).move = some { target := j, stage := .announced } →
            let c := homeCell j
            out = .next (((u.setDev i { s.dev i with move := none, shadow := some j }).setCell c
              { s.cell c with slots := (s.cell c).slots.set (homeSlot j) .unowned }).sends h.link h.tag
                { result := .done }))))

/-- Pin Route is decided in the order of R59, and Unpin Route in that of R60; each that passes requests its write.
-/
def Obligations.PinAndUnpinDecided : Prop :=
  ∀ (s : State) (h : FrameHead) (b bp : Byte),
    let pinOut := exec (.pinRoute h [b, bp]) s
    let unpinOut := exec (.unpinRoute h [b, bp]) s
    (s.takes h .pinRoute → 192 ≤ b.toNat → s.refuses h .badTarget b.toNat pinOut) ∧
    (s.takes h .unpinRoute → 192 ≤ b.toNat → s.refuses h .badTarget b.toNat unpinOut) ∧
    ∀ i : DevIx, b.toNat = i.val →
      let d := s.dev i
      let known := bp.toNat = 0 ∨
        ∃ k, (s.dev k).life ≠ .vacant ∧ (s.dev k).kind = .repeater ∧ (s.dev k).relay.val = bp.toNat
      (s.takes h .pinRoute →
        (d.life = .vacant → s.refuses h .vacantTarget 0 pinOut) ∧
        (d.life = .enrolling → s.refuses h .wrongState 0 pinOut) ∧
        (d.life.owns = true →
          (16 ≤ bp.toNat ∨ (d.kind = .repeater ∧ d.relay.val = bp.toNat) ∨ ¬known →
            s.refuses h .badValue 0 pinOut) ∧
          (∀ p : Path, bp.toNat = p.val → ¬(d.kind = .repeater ∧ d.relay = p) → known →
            match d.routes.find p with
            | some r =>
              if r.pinned = true then s.refuses h .noChange 0 pinOut
              else s.writeRequested h .pinRoute (.pin i d.identity p) pinOut
            | none =>
              if d.routes.bothPinned = true then s.refuses h .wrongState 0 pinOut
              else s.writeRequested h .pinRoute (.pin i d.identity p) pinOut))) ∧
      (s.takes h .unpinRoute →
        (d.life = .vacant → s.refuses h .vacantTarget 0 unpinOut) ∧
        (d.life = .enrolling → s.refuses h .wrongState 0 unpinOut) ∧
        (d.life.owns = true →
          (16 ≤ bp.toNat → s.refuses h .badValue 0 unpinOut) ∧
          (∀ p : Path, bp.toNat = p.val →
            match d.routes.find p with
            | none => s.refuses h .wrongState 0 unpinOut
            | some r =>
              if r.pinned = true then s.writeRequested h .unpinRoute (.unpin i d.identity p) unpinOut
              else s.refuses h .noChange 0 unpinOut)))

/-- Set Zone Parameters clamps, refuses an unknown mode, thresholds out of range and an N not below L as BAD_VALUE,
and answers NO_CHANGE for the zone's present set; else its write is requested (R92, R93). Set Site Parameters clamps
every operand, answers NO_CHANGE for the set in force, and else requests its write (R159). Set Cell Channel is
decided in the order of R31: range, Absent, not Off, channel range, the channel of another cell that is not Absent,
the present channel; else its write is requested. -/
def Obligations.ParameterCommandsDecided : Prop :=
  (∀ (s : State) (h : FrameHead) (b mode cwHi cwLo npre nfire spre sfire v vw n l tfix pre rise : Byte),
      s.takes h .setZoneParameters →
      let out := exec (.setZoneParameters h
        [b, mode, cwHi, cwLo, npre, nfire, spre, sfire, v, vw, n, l, tfix, pre, rise]) s
      let within := fun (lo hi x : Nat) => max lo (min hi x)
      let ok := fun (x y : Byte) => 3 ≤ x.toNat ∧ x.toNat ≤ 200 ∧ x.toNat + 1 ≤ y.toNat ∧ y.toNat ≤ 240
      let valueOk := mode.toNat ≤ 1 ∧ ok npre nfire ∧ ok spre sfire ∧ within 0 100 n.toNat < within 20 120 l.toNat
      let new : ZoneParams :=
        { mode := if mode.toNat = 0 then .single else .corroborated
          corrWindow := within 30 600 (256 * cwHi.toNat + cwLo.toNat)
          normalTpre := npre.toNat, normalTfire := nfire.toNat
          serviceTpre := spre.toNat, serviceTfire := sfire.toNat
          verifications := within 1 4 v.toNat, verifWindow := within 6 120 vw.toNat
          nominal := within 0 100 n.toNat, compLimit := within 20 120 l.toNat
          tfix := within 100 180 tfix.toNat, preOffset := within 4 40 pre.toNat, rrise := within 6 40 rise.toNat }
      (32 ≤ b.toNat → s.refuses h .badTarget b.toNat out) ∧
      ∀ z : ZoneIx, b.toNat = z.val →
        (¬valueOk → s.refuses h .badValue 0 out) ∧
        (valueOk → new = (s.zone z).params → s.refuses h .noChange 0 out) ∧
        (valueOk → new ≠ (s.zone z).params → s.writeRequested h .setZoneParameters (.zone z new) out)) ∧
  (∀ (s : State) (h : FrameHead) (miss age hi lo wf ww ws : Byte), s.takes h .setSiteParameters →
      let out := exec (.setSiteParameters h [miss, age, hi, lo, wf, ww, ws]) s
      let within := fun (lo hi x : Nat) => max lo (min hi x)
      let new : SiteParams :=
        { missLimit := within 2 10 miss.toNat, routeAge := within 4 64 age.toNat
          holdOff := within 60 3600 (256 * hi.toNat + lo.toNat)
          wFault := within 1 15 wf.toNat, wWarning := within 1 15 ww.toNat, wStatus := within 1 15 ws.toNat }
      (new = s.site → s.refuses h .noChange 0 out) ∧
        (new ≠ s.site → s.writeRequested h .setSiteParameters (.site new) out)) ∧
  (∀ (s : State) (h : FrameHead) (b bc : Byte), s.takes h .setCellChannel →
      let out := exec (.setCellChannel h [b, bc]) s
      (4 ≤ b.toNat → s.refuses h .badTarget b.toNat out) ∧
      ∀ c : CellIx, b.toNat = c.val →
        ((s.cell c).state = .absent → s.refuses h .cellAbsent 0 out) ∧
        ((s.cell c).state ≠ .absent → (s.cell c).state ≠ .off → s.refuses h .wrongState 0 out) ∧
        ((s.cell c).state = .off →
          (32 ≤ bc.toNat → s.refuses h .badValue 0 out) ∧
          (∀ ch : Channel, bc.toNat = ch.val →
            ((∃ k, k ≠ c ∧ (s.cell k).state ≠ .absent ∧ (s.cell k).channel = ch) →
              s.refuses h .badValue 0 out) ∧
            ((∀ k, k ≠ c → (s.cell k).state ≠ .absent → (s.cell k).channel ≠ ch) →
              ((s.cell c).channel = ch → s.refuses h .noChange 0 out) ∧
              ((s.cell c).channel ≠ ch → s.writeRequested h .setCellChannel (.channel c ch) out)))))

/-- Stop Cell, by the table of R29: each state's effect and answer; no store write, no event and no change of any
device record. Start Cell, by the table of R30. -/
def Obligations.StopAndStartCellByState : Prop :=
  (∀ (s : State) (h : FrameHead) (b : Byte), s.takes h .stopCell →
      let out := exec (.stopCell h [b]) s
      let u := s.taken h
      (4 ≤ b.toNat → s.refuses h .badTarget b.toNat out) ∧
      ∀ c : CellIx, b.toNat = c.val →
        let r := s.cell c
        let done := fun x : Cell => out = .next ((u.setCell c x).sends h.link h.tag { result := .done })
        match r.state with
        | .absent => s.refuses h .cellAbsent 0 out
        | .running => done { r with state := .stopping }
        | .stopping => s.refuses h .noChange 0 out
        | .off => if r.startPending = true then done { r with startPending := false } else s.refuses h .noChange 0 out
        | .failed => done { r with state := .off, unconfirmed := 0 }) ∧
  (∀ (s : State) (h : FrameHead) (b : Byte), s.takes h .startCell →
      let out := exec (.startCell h [b]) s
      let u := s.taken h
      (4 ≤ b.toNat → s.refuses h .badTarget b.toNat out) ∧
      ∀ c : CellIx, b.toNat = c.val →
        let r := s.cell c
        let done := fun x : Cell => out = .next ((u.setCell c x).sends h.link h.tag { result := .done })
        match r.state with
        | .absent => s.refuses h .cellAbsent 0 out
        | .off => if r.startPending = true then s.refuses h .noChange 0 out else done { r with startPending := true }
        | .stopping => done { r with state := .running }
        | .running => s.refuses h .noChange 0 out
        | .failed => s.refuses h .noChange 0 out)

/-! ## Write ends (R152, R168) -/

/-- The end of a write (R168). When its verify passes, the written bank holds the composed image and becomes
current, the configuration-invalid flag and the store-outstanding flags of the replaced entries are cleared; when it
fails, the written bank is erased and the current one is unchanged. Waiting requests stay. A roster write that ends
well stores its image; one whose verify fails leaves the working state and sets the store-outstanding flag of each
index in its set (R4, R168). -/
def Obligations.WriteEndSettlesBanks : Prop :=
  (∀ (s : State) (a : ActiveWrite), s.store.active = some a →
      let t := s.endWrite true
      let f := s.endWrite false
      t.store.current = some s.store.target ∧ t.store.inForce = some a.image ∧ t.store.invalid = false ∧
        t.store.active = none ∧ t.store.waiting = s.store.waiting ∧
        (∀ i, t.dev i = { s.dev i with outstanding := if i ∈ a.replaced then false else (s.dev i).outstanding }) ∧
        f.store.bank s.store.target = .erased ∧ f.store.current = s.store.current ∧
        f.store.inForce = s.store.inForce ∧ f.store.active = none ∧ f.store.waiting = s.store.waiting ∧
        f.store.invalid = s.store.invalid ∧ (∀ i, f.dev i = s.dev i)) ∧
  (∀ (s : State) (a : ActiveWrite) (ixs : List DevIx), s.phase = .running → s.store.active = some a →
      a.job = .roster ixs →
      exec (.rosterWriteEnd true) s = .next (s.endWrite true) ∧
        exec (.rosterWriteEnd false) s = .next ((s.endWrite false).mapDevs fun i d =>
          if i ∈ ixs then { d with outstanding := true } else d))

/-- A command write whose verify fails is answered STORE_WRITE_FAILED; Link S is Ready again and the working state
keeps the command's change unmade, whichever of the seven writing commands it was (R157, R168). -/
def Obligations.FailedWriteLeavesWorkingState : Prop :=
  ∀ (s : State) (w : CommandWrite) (tag : Byte), s.writing w tag →
    let done := fun out : Host.Outcome State Fault Refusal =>
      out = .next ((s.endWrite false).completes tag .storeWriteFailed)
    match w with
    | .enrol _ _ => done (exec (.enrolDeviceWriteEnd false) s)
    | .remove _ _ _ => done (exec (.removeDeviceWriteEnd false) s)
    | .pin _ _ _ => done (exec (.pinRouteWriteEnd false) s)
    | .unpin _ _ _ => done (exec (.unpinRouteWriteEnd false) s)
    | .zone _ _ => done (exec (.setZoneParametersWriteEnd false) s)
    | .site _ => done (exec (.setSiteParametersWriteEnd false) s)
    | .channel _ _ => done (exec (.setCellChannelWriteEnd false) s)

/-- An enrolment whose write succeeds sets the entry up Enrolling with the values of R2 and a deadline 2400 quarters
on, and is answered DONE; no event is created (R8). A removal whose write succeeds makes the entry Vacant where it
then stands, deletes the route entries naming a removed Repeater, creates DeviceRemoved and recomputes the zone of
another kind of entry; when the entry has become Vacant during the write nothing more changes (R14 to R16, R105). A
pin whose write succeeds pins the entry for its path with its other fields kept, or places a pinned entry with
quality 0 and age 0 in the first free position, or else in the position of the unpinned entry that R56 replaces; an
unpin clears the pinned flag of the entry for its path; the other position is unchanged. The change is made to the
record where it stands, found by its identity (log 27); when its move was transferred meanwhile, both indices are
flagged store-outstanding; when it has become Vacant during the write nothing more changes (R56, R59, R60). -/
def Obligations.DeviceWriteEnds : Prop :=
  (∀ (s : State) (i : DevIx) (e : StoredEntry) (tag : Byte), s.writing (.enrol i e) tag →
      exec (.enrolDeviceWriteEnd true) s = .next (((s.endWrite true).setDev i
        { life := .enrolling
          outstanding := ((s.endWrite true).dev i).outstanding
          identity := e.identity, kind := e.kind, zone := e.zone, relay := e.relay, granted := e.granted
          deadline := some (s.runClock + 2400) }).completes tag .done)) ∧
  (∀ (s : State) (i : DevIx) (identity : BitVec 24) (relay : Option Path) (tag : Byte),
      s.writing (.remove i identity relay) tag →
      let v := s.endWrite true
      ((∀ k, (s.dev k).life ≠ .vacant → (s.dev k).identity ≠ identity) →
        exec (.removeDeviceWriteEnd true) s = .next (v.completes tag .done)) ∧
      ∀ j, (s.dev j).life ≠ .vacant → (s.dev j).identity = identity →
        (∀ k, (s.dev k).life ≠ .vacant → (s.dev k).identity = identity → k = j) →
        let d := s.dev j
        let gone := v.setDev j { outstanding := (v.dev j).outstanding }
        exec (.removeDeviceWriteEnd true) s = .next
          (if d.kind = .repeater then
            ((gone.mapDevs fun k x => if k = j then x else
              { x with routes :=
                { first := x.routes.first.filter fun r => decide (r.path ≠ d.relay)
                  second := x.routes.second.filter fun r => decide (r.path ≠ d.relay) } }).create
              (.deviceRemoved j)).completes tag .done
          else ((gone.create (.deviceRemoved j)).recompute d.zone).completes tag .done)) ∧
  ((∀ (s : State) (i j : DevIx) (identity : BitVec 24) (p : Path) (tag : Byte),
      (s.dev j).life ≠ .vacant → (s.dev j).identity = identity →
      (∀ k, (s.dev k).life ≠ .vacant → (s.dev k).identity = identity → k = j) →
      let x := (s.dev j).routes
      let flags := fun (u : State) => if j = i then u else
        u.mapDevs fun k d => if k = i ∨ k = j then { d with outstanding := true } else d
      let ends := fun (y : RoutePair) => Host.Outcome.next ((flags ((s.endWrite true).setDev j
        { (s.endWrite true).dev j with routes := y })).completes tag .done)
      (s.writing (.pin i identity p) tag → exec (.pinRouteWriteEnd true) s = ends (routesPinned x p)) ∧
      (s.writing (.unpin i identity p) tag → exec (.unpinRouteWriteEnd true) s = ends (routesUnpinned x p))) ∧
    ∀ (s : State) (i : DevIx) (identity : BitVec 24) (p : Path) (tag : Byte),
      (∀ k, (s.dev k).life ≠ .vacant → (s.dev k).identity ≠ identity) →
      (s.writing (.pin i identity p) tag →
        exec (.pinRouteWriteEnd true) s = .next ((s.endWrite true).completes tag .done)) ∧
      (s.writing (.unpin i identity p) tag →
        exec (.unpinRouteWriteEnd true) s = .next ((s.endWrite true).completes tag .done)))

/-- A zone parameter write that succeeds puts the set in force, in the steps of R93. With a changed compensation
limit the baseline of every smoke member is brought within it (R75; of a Missing one too, log 30), and of each
Supervised one Contaminated is decided, DeviceFault and DeviceRestored telling of it in index order (R77). The
roll-up is then recomputed with its ZoneCondition event (R105). When the zone is then Alerted and the new window has
run out, the corroboration lapses at once (R107, R108). No generation and no site alarm count advances, and no other
zone changes. A site parameter write that succeeds puts the set in force, with every miss count above the new limit
brought down to it (R51, R159). A cell channel write that succeeds gives the cell its new channel and keeps a
pending start (R31). -/
def Obligations.ParameterWriteEnds : Prop :=
  (∀ (s : State) (z : ZoneIx) (p : ZoneParams) (tag : Byte), s.writing (.zone z p) tag →
      ∃ v : State, exec (.setZoneParametersWriteEnd true) s = .next (v.completes tag .done) ∧
        s.keepsLinks v ∧ s.keepsClocks v ∧ v.time = s.time ∧ v.cells = s.cells ∧ v.store = (s.endWrite true).store ∧
        (v.zone z).params = p ∧ v.rollUp z = (v.zone z).cond ∧
        (v.zone z).generation = (s.zone z).generation ∧ v.siteCount = s.siteCount ∧
        (∀ y, y ≠ z → v.zone y = s.zone y) ∧
        (∀ i b, (s.dev i).life ≠ .vacant → (s.dev i).kind = .smoke → (s.dev i).zone = z →
          (s.dev i).smoke.baseline = some b → p.compLimit ≠ (s.zone z).params.compLimit →
          (v.dev i).smoke.baseline = some (min (16 * p.compLimit) b) ∧
            ((s.dev i).life = .supervised → (v.dev i).faults.contaminated =
              (if 16 * p.compLimit ≤ b then true
              else if b + 32 < 16 * p.compLimit then false
              else (s.dev i).faults.contaminated)) ∧
            ((s.dev i).life ≠ .supervised → (v.dev i).faults = (s.dev i).faults)) ∧
        (∀ i, (s.dev i).zone ≠ z → (v.dev i).smoke = (s.dev i).smoke ∧ (v.dev i).cond = (s.dev i).cond) ∧
        let old := s.zone z
        let limit := 16 * p.compLimit
        let limited := fun d : Device => p.compLimit ≠ old.params.compLimit ∧ d.life ≠ .vacant ∧ d.kind = .smoke ∧
          d.zone = z
        let dirty := fun (d : Device) (b : Nat) =>
          if limit ≤ b then true else if b + 32 < limit then false else d.faults.contaminated
        let within := fun d : Device => match d.smoke.baseline with
          | some b => if limited d then
              { d with
                smoke := { d.smoke with baseline := some (min limit b) }
                faults := { d.faults with
                  contaminated := if d.life = .supervised then dirty d b else d.faults.contaminated } }
            else d
          | none => d
        let tells := fun i : DevIx => match (s.dev i).smoke.baseline with
          | some b => if limited (s.dev i) ∧ (s.dev i).life = .supervised ∧
                dirty (s.dev i) b ≠ (s.dev i).faults.contaminated then
              if dirty (s.dev i) b = true then [EventBody.deviceFault i .contaminated]
              else [.deviceRestored i (.cause .contaminated)]
            else []
          | none => []
        let first := (((s.endWrite true).setZone z { old with params := p }).mapDevs fun _ d => within d).createAll
          (allDevs.flatMap tells)
        let c := first.rollUp z
        let second := if c = old.cond then first else
          (first.setZone z { old with
            params := p
            cond := c
            firstLatch := if c = .alerted then some s.runClock else none
            ack := if c = .quiet ∨ c = .preAlarm then none else old.ack }).create (.zoneCondition z c old.generation)
        let expired := c = .alerted ∧ ∃ t, (second.zone z).firstLatch = some t ∧ t + 4 * p.corrWindow ≤ s.runClock
        (¬expired → v = second) ∧
          ∀ i, expired → second.countedMember z (second.dev i) = true → (second.dev i).cond = .fireLatched →
            (∀ k, second.countedMember z (second.dev k) = true → (second.dev k).cond = .fireLatched → k = i) →
            v = ((second.setDev i { second.dev i with
              cond := if standingTest (second.dev i) (second.zone z) = true then .preAlarm else .quiet
              verif := if (second.dev i).kind = .smoke then {} else (second.dev i).verif }).create
                (.corroborationLapsed z i old.generation)).recompute z) ∧
  (∀ (s : State) (tag : Byte),
      (∀ p : SiteParams, s.writing (.site p) tag →
        exec (.setSiteParametersWriteEnd true) s = .next (({ s.endWrite true with site := p }.mapDevs fun _ d =>
          { d with missCount := if p.missLimit < d.missCount then p.missLimit else d.missCount }).completes tag .done)) ∧
      (∀ (c : CellIx) (ch : Channel), s.writing (.channel c ch) tag →
        exec (.setCellChannelWriteEnd true) s = .next
          (((s.endWrite true).setCell c { s.cell c with channel := ch }).completes tag .done)))

/-- STORE_WRITE_START starts the waiting request that was made first, when no write is in progress: it leaves the
queue and is in progress with the image that its request composes as the state stands, and the image in force stays
(R168, R169). A roster write stores, for each index of its set, the index's working content when it starts, its
pinned routes by position among it, and leaves every other stored entry, the zones, the channels and the site
section of the image in force as they are; it replaces the stored entries of its set (R168). -/
def Obligations.WaitingWriteStartsInOrder : Prop :=
  (∀ (s : State), s.phase = .running → s.store.active = none →
      match s.store.waiting with
      | [] => exec .storeWriteStart s = .next s
      | j :: js => ∃ x : Store, exec .storeWriteStart s = .next { s with store := x } ∧
          x.waiting = js ∧ x.current = s.store.current ∧ x.inForce = s.store.inForce ∧
          x.active = some { job := j, image := s.composed j, replaced := s.replaces j } ∧
          (s.composed j).number =
            (match s.store.inForce with
            | some im => im.number + 1
            | none => 0)) ∧
  (∀ (s : State) (ixs : List DevIx) (im : Image), s.store.inForce = some im →
      let new := s.composed (.roster ixs)
      s.replaces (.roster ixs) = ixs ∧
      new.zones = im.zones ∧ new.channels = im.channels ∧ new.site = im.site ∧ new.number = im.number + 1 ∧
        ∀ i : DevIx, (i ∉ ixs → new.roster[i] = im.roster[i]) ∧
          (i ∈ ixs → (s.dev i).life = .vacant → new.roster[i] = none) ∧
          (i ∈ ixs → (s.dev i).life ≠ .vacant → ∃ e, new.roster[i] = some e ∧ e.identity = (s.dev i).identity ∧
            e.kind = (s.dev i).kind ∧ e.zone = (s.dev i).zone ∧ e.relay = (s.dev i).relay ∧
            e.granted = (s.dev i).granted ∧ e.pinFirst = pathIfPinned (s.dev i).routes.first ∧
            e.pinSecond = pathIfPinned (s.dev i).routes.second))

/-- The image of a command write (R168) is that in force with the next write number, or the working configuration
with number 0, but for the records the command changes: Enrol Device stores its entry (R8); Remove Device erases the
entries at its index and where the record, found by its identity, stands as the write starts (logs 27 and 33), and
for a Repeater the pins on its relay number (R14); a pin or unpin adds or drops its route alone at its index, a pin
in the only free position, or of two in the one its path takes in the working record (R59, R60; log 13); the
parameter commands store their set or channel (R31, R93, R159). An entry with its flag set has its rest from the
working content. -/
def Obligations.CommandImageReplacesItsRecords : Prop :=
  ∀ (s : State) (w : CommandWrite),
    let new := s.composed (.command w)
    let force := s.store.inForce
    let working := fun i : DevIx => (s.dev i).configured
    let old := fun i : DevIx => match force with
      | some im => im.roster[i]
      | none => working i
    let rest := fun i : DevIx => if (s.dev i).outstanding = true then working i else old i
    let drop := fun (p : Path) (e : StoredEntry) =>
      ({ e with pinFirst := e.pinFirst.filter fun q => decide (q ≠ p)
                pinSecond := e.pinSecond.filter fun q => decide (q ≠ p) } : StoredEntry)
    let stands := fun (identity : BitVec 24) (j : DevIx) => (s.dev j).life ≠ .vacant ∧
      (s.dev j).identity = identity ∧ ∀ k, (s.dev k).life ≠ .vacant → (s.dev k).identity = identity → k = j
    let rosterIs := fun (changed : DevIx → Option (Option StoredEntry)) =>
      ∀ k : DevIx, new.roster[k] = (changed k).getD (old k)
    let zonesAre := fun (changed : ZoneIx → Option ZoneParams) => ∀ z : ZoneIx, new.zones[z] =
      (changed z).getD (match force with
        | some im => im.zones[z]
        | none => (s.zone z).params)
    let channelsAre := fun (changed : CellIx → Option Channel) => ∀ c : CellIx, new.channels[c] =
      (changed c).getD (match force with
        | some im => im.channels[c]
        | none => (s.cell c).channel)
    let siteIs := fun (changed : Option SiteParams) => new.site = changed.getD (match force with
      | some im => im.site
      | none => s.site)
    let sections := fun (r : Prop) => r ∧ zonesAre (fun _ => none) ∧ channelsAre (fun _ => none) ∧ siteIs none
    let at' := fun (i : DevIx) (e : Option StoredEntry) (k : DevIx) => if k = i then some e else none
    (new.number = match force with
      | some im => im.number + 1
      | none => 0) ∧
    match w with
    | .enrol i e => sections (rosterIs (at' i (some e)))
    | .remove i identity relay =>
      let pins := fun (p : Path) (k : DevIx) =>
        (old k).any fun e => decide (e.pinFirst = some p ∨ e.pinSecond = some p)
      let erases := fun (gone : DevIx → Bool) => sections (rosterIs fun k =>
        if gone k then some none
        else
          match relay with
          | some p => if pins p k then some ((rest k).map (drop p)) else none
          | none => none)
      ((∀ k, (s.dev k).life ≠ .vacant → (s.dev k).identity ≠ identity) → erases fun k => decide (k = i)) ∧
        ∀ j, stands identity j → erases fun k => decide (k = i ∨ k = j)
    | .pin i identity p => ∀ j, stands identity j →
      let y := routesPinned (s.dev j).routes p
      let adds := fun e : StoredEntry =>
        if e.pinFirst = some p ∨ e.pinSecond = some p then e
        else
          match e.pinFirst, e.pinSecond with
          | none, some _ => { e with pinFirst := some p }
          | some _, none => { e with pinSecond := some p }
          | _, _ => if (y.second.map fun r => r.path) = some p then { e with pinSecond := some p }
            else { e with pinFirst := some p }
      sections (rosterIs (at' i ((rest i).map adds)))
    | .unpin i _ p => sections (rosterIs (at' i ((rest i).map (drop p))))
    | .zone z ps => rosterIs (fun _ => none) ∧ zonesAre (fun y => if y = z then some ps else none) ∧
        channelsAre (fun _ => none) ∧ siteIs none
    | .site ps => rosterIs (fun _ => none) ∧ zonesAre (fun _ => none) ∧ channelsAre (fun _ => none) ∧ siteIs (some ps)
    | .channel c ch => rosterIs (fun _ => none) ∧ zonesAre (fun _ => none) ∧
        channelsAre (fun b => if b = c then some ch else none) ∧ siteIs none
/-! ## Copies (02, section 2.3) -/

/-! ## Copies (02, section 2.3) -/

/-- A copy is sorted before the acceptance tests: a cell that is not operating, or deaf until its next interval,
takes nothing; a late copy and one of interval 0 count a window failure; a copy with a bad verdict or not a known
uplink frame counts an integrity failure; a fourth copy or a second one by the same path is discarded uncounted
(R28, R33, R34 test 1). The tick moves to the copy's (log 3). The acceptance tests 2 to 6 of R34 decide in their
order, for an examined copy: frame kind against the interval's use, window of the path and relay number for every
uplink frame, an Enrol copy among them; owner and conflict for a Report or Alarm, the conflict with the frame that
its identity has in the interval in any cell (R36; log 44). A failure is counted once, the copy goes onto the work
list, and nothing else changes. A later Enrol copy of an identity already accepted in the interval is discarded
uncounted (R37). -/
def Obligations.CopiesTestedInOrder : Prop :=
  (∀ (s : State) (c : CellIx) (x : Copy), s.phase = .running →
      let u := s.atTick x.taken
      let r := s.cell c
      let operating := r.state = .running ∨ r.state = .stopping
      let out := exec (.receivedCopy c x) s
      let count := fun f : CellStats → CellStats => out = .next (u.setCell c { r with stats := f r.stats })
      let late := 3758 ≤ x.taken.val ∨ 3758 ≤ s.time.tick.val ∨ s.time.interval = 0
      (¬operating ∨ r.deaf = true → out = .next u) ∧
      (operating → r.deaf = false →
        (late → count fun k => { k with window := min 65535 (k.window + 1) }) ∧
        (¬late →
          ((x.good = false ∨ Uplink.parse x.bytes = none) →
            count fun k => { k with integrity := min 65535 (k.integrity + 1) }) ∧
          (∀ f, x.good = true → Uplink.parse x.bytes = some f →
            (3 ≤ r.work.length ∨ ∃ w ∈ r.work, w.path = f.path) → out = .next u)))) ∧
  (∀ (s : State) (c : CellIx) (x : Copy) (frame : Uplink), s.phase = .running →
      let r := s.cell c
      (r.state = .running ∨ r.state = .stopping) → r.deaf = false → x.taken.val < 3758 → s.time.tick.val < 3758 →
      s.time.interval ≠ 0 → x.good = true → Uplink.parse x.bytes = some frame → r.work.length < 3 →
      (∀ w ∈ r.work, w.path ≠ frame.path) →
      let u := s.atTick x.taken
      let k := s.time.interval.val
      let fits := match frame with
        | .report _ => 1 ≤ k ∧ k ≤ 6
        | .alarm _ => 8 ≤ k
        | .enrol _ _ _ => k = 7
      let inWindow := if frame.path = 0 then 175 ≤ x.arrival.val ∧ x.arrival.val ≤ 1135
        else 2797 ≤ x.arrival.val ∧ x.arrival.val ≤ 3757
      let relay := frame.path = 0 ∨
        ∃ i, (s.dev i).life.owns = true ∧ (s.dev i).kind = .repeater ∧ (s.dev i).relay = frame.path
      let counted := fun (o : CopyOutcome) (g : CellStats → CellStats) =>
        exec (.receivedCopy c x) s = .next (u.setCell c { r with
          stats := g r.stats
          work := r.work ++ [{ path := frame.path, identity := frame.identity, outcome := o }] })
      let windowFailure := counted .windowFailure fun k => { k with window := min 65535 (k.window + 1) }
      let foreign := counted .foreignIdentity fun k => { k with foreignId := min 65535 (k.foreignId + 1) }
      (¬fits → windowFailure) ∧ (fits → ¬inWindow → windowFailure) ∧ (fits → inWindow → ¬relay → foreign) ∧
        (fits → inWindow → relay →
          (∀ f, frame = .report f ∨ frame = .alarm f →
            let conflict := ∃ g, (allCells.flatMap fun b => (s.cell b).frames).find?
              (fun g => g.identity = f.identity) = some g ∧ g.seq ≠ f.seq
            (s.matchCopy c frame = none → foreign) ∧ (s.matchCopy c frame ≠ none → conflict → foreign)) ∧
          (∀ identity kind p, frame = .enrol identity kind p →
            (∃ w ∈ r.work, w.identity = identity ∧ w.outcome = .accepted) → counted .discarded id)))

/-- Whom a Report or Alarm copy is matched to (R35): in a report interval the owning entry of its slot, or the
owning entry that holds the slot as its shadow slot; in an alarm interval an owning entry homed in the cell, or
holding a shadow slot homed in it. That an entry which is both is matched in its shadow slot is read from R20, log
16. -/
def Obligations.CopiesMatchedToOwners : Prop :=
  ∀ (s : State) (c : CellIx) (f : Sample) (i : DevIx),
    (∀ slot via, s.time.slot = some slot → s.matchCopy c (.report f) = some (i, via) →
      (s.dev i).life.owns = true ∧ (s.dev i).identity = f.identity ∧
        (match via with
        | .home => i = slotIndex c slot
        | .shadow => (s.dev i).shadow = some (slotIndex c slot))) ∧
    (∀ via, s.matchCopy c (.alarm f) = some (i, via) →
      (s.dev i).life.owns = true ∧ (s.dev i).identity = f.identity ∧
        (match via with
        | .home => homeCell i = c
        | .shadow => ∃ j, (s.dev i).shadow = some j ∧ homeCell j = c)) ∧
    (s.matchCopy c (.alarm f) = some (i, .home) → ∀ k j, (s.dev k).life.owns = true →
      (s.dev k).identity = f.identity → (s.dev k).shadow = some j → homeCell j ≠ c) ∧
    (∀ slot, s.time.slot = some slot → s.matchCopy c (.report f) = none →
      (s.dev i).identity = f.identity → (s.dev i).life.owns = true →
      i ≠ slotIndex c slot ∧ (s.dev i).shadow ≠ some (slotIndex c slot)) ∧
    (s.matchCopy c (.alarm f) = none → (s.dev i).identity = f.identity → (s.dev i).life.owns = true →
      homeCell i ≠ c ∧ ∀ j, (s.dev i).shadow = some j → homeCell j ≠ c)

/-- An accepted copy that is the first of its identity in the interval, in whichever cell, reaches the Roster,
supervision and the Route Table: the entry is restored from Missing, its heard-since-close flag set, its timing
offset taken from the window centre, its last sequence set and its routes taught; the frame goes on the cell's list,
a report marks its slot Heard, and one in the home slot releases a shadow slot. No other device's record changes
(R12, R20, R36, R42, R47, R55, R62). A repeat, the frame whose number equals the entry's last sequence, is
supervised and not evaluated: its reading and battery class are not taken, and condition, verification, fault set
and evaluation state stay (R12, R13). A later accepted copy, of an identity that has its frame in the interval, in
the same cell or in another, teaches the Route Table and goes onto the work list, and changes nothing else: a device
is evaluated at most once in an interval (R36, R42, R47, R89; log 44). -/
def Obligations.AcceptedFrameReachesSupervision : Prop :=
  (∀ (s : State) (c : CellIx) (x : Copy) (u : Uplink) (f : Sample) (i : DevIx) (via : SlotKind),
      acceptedFirst s c x u f i via →
      ∃ t, exec (.receivedCopy c x) s = .next t ∧ s.keepsLinks t ∧ s.keepsClocks t ∧ t.store = s.store ∧
        t.time = (s.atTick x.taken).time ∧ (∀ b, b ≠ c → t.cell b = s.cell b) ∧
        (∀ z, z ≠ (s.dev i).zone → t.zone z = s.zone z) ∧ (t.cell c).stats = (s.cell c).stats ∧
        (t.dev i).heard = true ∧ (t.dev i).life ≠ .missing ∧ (t.dev i).lastSeq = some f.seq ∧
        (t.dev i).offset = some ((x.arrival.val : Int) - (if f.path = 0 then 655 else 3277)) ∧
        (t.dev i).missCount = (if (s.dev i).life = .missing then 0 else (s.dev i).missCount) ∧
        (t.dev i).routes = (s.dev i).routes.learn f.path x.level.val ∧
        (t.dev i).shadow = (if u = .report f ∧ via = .home then none else (s.dev i).shadow) ∧
        (∀ k, k ≠ i → t.dev k = s.dev k) ∧
        (t.cell c).frames = (s.cell c).frames ++
          [{ index := i, identity := f.identity, seq := f.seq, via := via }] ∧
        (∀ h, u = .report f → s.time.slot = some h → (t.cell c).slots = (s.cell c).slots.set h .heard) ∧
        (u = .alarm f → (t.cell c).slots = (s.cell c).slots)) ∧
  (∀ (s : State) (c : CellIx) (x : Copy) (u : Uplink) (f : Sample) (i : DevIx) (via : SlotKind),
      acceptedFirst s c x u f i via → (s.dev i).lastSeq = some f.seq →
      ∃ t, exec (.receivedCopy c x) s = .next t ∧
        (t.dev i).lastReading = (s.dev i).lastReading ∧ (t.dev i).battery = (s.dev i).battery ∧
        (t.dev i).faults = (s.dev i).faults ∧ (t.dev i).cond = (s.dev i).cond ∧
        (t.dev i).verif = (s.dev i).verif ∧ (t.dev i).smoke = (s.dev i).smoke ∧ (t.dev i).heat = (s.dev i).heat ∧
        t.zones = s.zones ∧ t.siteCount = s.siteCount) ∧
  (∀ (s : State) (c b : CellIx) (x : Copy) (u : Uplink) (f : Sample) (i : DevIx) (via : SlotKind) (g : FrameEntry),
      acceptedCopy s c x u f i via → g ∈ (s.cell b).frames → g.identity = f.identity →
      exec (.receivedCopy c x) s = .next (((s.atTick x.taken).setCell c { s.cell c with
        work := (s.cell c).work ++ [{ path := f.path, identity := f.identity, outcome := .accepted }] }).setDev i
          { s.dev i with routes := (s.dev i).routes.learn f.path x.level.val }))

/-- A new frame, not a repeat, is evaluated. Supervision first restores a Missing entry, takes the battery class
with LowBattery at 0 and 1 and its removal from 3 up, and completes the calibration of any kind but Smoke; the
record then goes through the evaluation of chapter 04 with the zone and run clock as they stand. The events come in
that order, after them a latch is handed to the Zone Table, or a change between Quiet and PreAlarm of a counted
member recomputes its zone; the cell's list, slot record and work list take the frame (R5, R6, R36, R47, R64, R65,
R67, R98). -/
def Obligations.NewFrameIsEvaluated : Prop :=
  ∀ (s : State) (c : CellIx) (x : Copy) (u : Uplink) (f : Sample) (i : DevIx) (via : SlotKind),
    acceptedFirst s c x u f i via → (s.dev i).lastSeq ≠ some f.seq →
    let d := s.dev i
    let r := s.cell c
    let missing := d.life = .missing
    let life : Life := if missing then if d.kind = .smoke ∧ d.smoke.baseline = none then .calibrating else .supervised
      else d.life
    let low := f.battery.val ≤ 1
    let high := 3 ≤ f.battery.val
    let taken : Device := { d with
      life := if life = .calibrating ∧ d.kind ≠ .smoke then .supervised else life
      missCount := if missing then 0 else d.missCount
      heard := true
      lastSeq := some f.seq
      offset := some ((x.arrival.val : Int) - (if f.path = 0 then 655 else 3277))
      battery := some f.battery
      faults := { d.faults with
        lowBattery := if low then true else if high then false else d.faults.lowBattery }
      routes := d.routes.learn f.path x.level.val
      shadow := if u = .report f ∧ via = .home then none else d.shadow }
    let events : List EventBody := (if missing then [.deviceRestored i .missing] else []) ++
      (if low ∧ d.faults.lowBattery = false then [.deviceFault i .lowBattery]
      else if high ∧ d.faults.lowBattery = true then [.deviceRestored i (.cause .lowBattery)] else [])
    let e := evaluation { i := i, now := s.runClock, zone := s.zone d.zone, holdOff := s.site.holdOff } taken f.reading
    let cell : Cell := { r with
      frames := r.frames ++ [{ index := i, identity := f.identity, seq := f.seq, via := via }]
      work := r.work ++ [{ path := f.path, identity := f.identity, outcome := .accepted }]
      slots := match u, s.time.slot with
        | .report _, some h => r.slots.set h .heard
        | _, _ => r.slots }
    let t := (((s.atTick x.taken).setCell c cell).setDev i e.d).createAll (events ++ e.events)
    exec (.receivedCopy c x) s = .next
      (match e.latch with
      | some (level, elapsed) => t.takeLatch i level elapsed
      | none => if e.d.cond ≠ d.cond ∧ t.counted i = true then t.recompute d.zone else t)

/-- An accepted Enrol copy (R9, R10, R37): the first of the interval takes the downlink claim, which names the entry
to grant when that entry is grantable and of the request's kind; a request that matches no grantable entry, and the
first one of a grantable entry of another kind, counts an unmatched enrolment, the latter with EnrolMismatch naming
the received kind; a later one of a grantable entry changes nothing. No device record changes. -/
def Obligations.EnrolRequestsMatched : Prop :=
  ∀ (s : State) (c : CellIx) (x : Copy) (identity : BitVec 24) (kind : Byte) (p : Path), s.phase = .running →
    ((s.cell c).state = .running ∨ (s.cell c).state = .stopping) → (s.cell c).deaf = false →
    x.taken.val < 3758 → s.time.tick.val < 3758 → x.good = true →
    Uplink.parse x.bytes = some (.enrol identity kind p) → (s.cell c).work.length < 3 →
    (∀ w ∈ (s.cell c).work, w.path ≠ p) → s.copyOutcome c (.enrol identity kind p) x.arrival = .accepted →
    s.time.interval = 7 →
    let r := s.cell c
    let isFirst := r.claim = none
    let claimed := fun g : Option DevIx =>
      if isFirst then some { identity := identity, kind := kind, path := p, grant := g } else r.claim
    let one := { r.stats with unmatched := min 65535 (r.stats.unmatched + 1) }
    let takes := fun (claim : Option Claim) (stats : CellStats) => (s.atTick x.taken).setCell c { r with
      claim := claim
      stats := stats
      work := r.work ++ [{ path := p, identity := identity, outcome := .accepted }] }
    let out := exec (.receivedCopy c x) s
    ((∀ i, s.holder identity = some i → (s.dev i).grantable = false) → out = .next (takes (claimed none) one)) ∧
      ∀ i, s.holder identity = some i → (s.dev i).grantable = true →
        (isFirst → kind.toNat = (s.dev i).kind.code → out = .next (takes (claimed (some i)) r.stats)) ∧
        (isFirst → kind.toNat ≠ (s.dev i).kind.code →
          out = .next ((takes (claimed none) one).create (.enrolMismatch i kind))) ∧
        (¬isFirst → out = .next (takes r.claim r.stats))

/-! ## Downlinks and beacons (02, sections 2.2 and 2.4) -/

/-- The downlink of a report or alarm interval is the acknowledgement of the first frame on the list, requested for
tick 5898 on the cell's channel with values current at assembly; a Pending move that it carries becomes Announced.
An interval without a frame to answer, or whose entry has left its owning state, has none (R18, R38 to R40). The
wake level of an acknowledgement or grant (R90): for Smoke the baseline rounded to the nearest unit, or the nominal
baseline without one, plus the Tpre of the zone's active profile, at most 250; for Heat Tfix less the pre-alarm
offset plus 40, clamped to 0 to 250; 1 for a Call Point and 255 for a Repeater. -/
def Obligations.AcknowledgementOfFirstFrame : Prop :=
  (∀ (s : State) (c : CellIx), s.phase = .running → s.time.interval ≠ 0 → s.time.interval ≠ 7 →
      ((s.cell c).state = .running ∨ (s.cell c).state = .stopping) → (s.cell c).assembled = false →
      let u := s.atTick 3758
      let r := { s.cell c with assembled := true }
      match (s.cell c).frames with
      | [] => exec (.downlinkAssembly c) s = .next (u.setCell c r)
      | f :: _ =>
        let d := s.dev f.index
        if d.life.owns = true ∧ d.identity = f.identity then
          let place := fun j : DevIx => ({ cell := homeCell j, channel := (s.cell (homeCell j)).channel,
                                           slot := homeSlot j } : Reassignment)
          let re := match d.move with
            | some m => some (place m.target)
            | none => if f.via = .shadow then some (place f.index) else none
          let bytes := ackBytes d.identity f.seq (clampInt (-240) 240 (-(d.offset.getD 0)))
            (wakeLevel d (s.zone d.zone)) (decide (d.cond = .fireLatched ∧ d.kind ≠ .repeater)) re d.routes.preferred
          exec (.downlinkAssembly c) s = .next ((u.setCell c { r with
            lastTx := some { interval := s.time.interval, tick := 5898, channel := r.channel, bytes := bytes } }).setDev
              f.index { d with move := d.move.map fun m => { m with stage := .announced } })
        else exec (.downlinkAssembly c) s = .next (u.setCell c r)) ∧
  (∀ (d : Device) (r : Zone),
      let tpre := match r.profile with
        | .normal => r.params.normalTpre
        | .service => r.params.serviceTpre
      (d.kind = .smoke → wakeLevel d r = min 250 ((match d.smoke.baseline with
        | some b => (b + 8) / 16
        | none => r.params.nominal) + tpre)) ∧
      (d.kind = .heat → (wakeLevel d r : Int) =
        max 0 (min 250 ((r.params.tfix : Int) - (r.params.preOffset : Int) + 40))) ∧
      (d.kind = .callPoint → wakeLevel d r = 1) ∧ (d.kind = .repeater → wakeLevel d r = 255))

/-- The downlink of an enrolment interval whose claim names an entry. For an Enrolling entry of the request's
identity the entry becomes Calibrating and granted without a deadline, the grant frame is requested on the path of
the request, the store write of the index is requested (while a restart is pending the index is flagged
store-outstanding instead), DeviceEnrolled is created, the home slot's record entry becomes Unowned and Unsupervised
agrees with the home cell, with its event after DeviceEnrolled; a granted Calibrating entry without a last sequence
is sent its grant again and nothing else changes. That an entry which has left both states by then counts an
unmatched enrolment is the model's reading, log 15 (R9, R10, R41, R53). -/
def Obligations.GrantMakesCalibrating : Prop :=
  ∀ (s : State) (c : CellIx) (q : Claim) (i : DevIx), s.phase = .running → s.time.interval = 7 →
    ((s.cell c).state = .running ∨ (s.cell c).state = .stopping) →
    (s.cell c).assembled = false → (s.cell c).claim = some q → q.grant = some i →
    let d := s.dev i
    let home := s.cell (homeCell i)
    let u := s.atTick 3758
    let r := { s.cell c with assembled := true }
    let request : TxRequest := { interval := 7, tick := 5898, channel := r.channel,
                                 bytes := grantBytes d.identity (homeCell i) home.channel (homeSlot i)
                                   (wakeLevel d (s.zone d.zone)) q.path }
    (d.life = .enrolling → d.identity = q.identity → ∃ t, exec (.downlinkAssembly c) s = .next t ∧
      t.dev i = { d with
        life := .calibrating, granted := true, deadline := none
        outstanding := if s.restart = .idle then d.outstanding else true
        faults := { d.faults with
          unsupervised := decide (home.state = .off ∨ home.state = .failed ∨ home.state = .absent) } } ∧
      s.keepsLinks t ∧ s.keepsClocks t ∧ t.zones = s.zones ∧ t.siteCount = s.siteCount ∧
      (∀ b, b ≠ c → b ≠ homeCell i → t.cell b = s.cell b) ∧
      (∀ k, k ≠ i → t.dev k = s.dev k) ∧ (t.cell c).lastTx = some request ∧
      (t.cell (homeCell i)).slots = home.slots.set (homeSlot i) .unowned ∧
      (s.restart = .idle → ∃ j ∈ t.store.jobs, ∃ ixs, j = .roster ixs ∧ i ∈ ixs) ∧
      (s.restart ≠ .idle → t.store = s.store) ∧
      ((s.create (.deviceEnrolled i c)).createAll (unsupervisedChange d i home)).sameEvents t) ∧
    (d.life = .calibrating → d.granted = true → d.lastSeq = none → d.identity = q.identity →
      exec (.downlinkAssembly c) s = .next (u.setCell c { r with lastTx := some request })) ∧
    (d.identity ≠ q.identity ∨ (d.life ≠ .enrolling ∧ ¬(d.life = .calibrating ∧ d.granted = true ∧ d.lastSeq = none)) →
      exec (.downlinkAssembly c) s = .next (u.setCell c { r with
        stats := { r.stats with unmatched := min 65535 (r.stats.unmatched + 1) } }))

/-! ## The schedule (02, 03) -/

/-- INTERVAL_END carries the timebase, run clock and Site Time one interval on, with the carries of R23: from
interval 11 a superframe boundary is due, and from interval 11 of phase 7 a cycle boundary (the marks are the
model's, log 3). Every cell's interval work is emptied, its downlink of the interval with it; outside a report
interval no device record and no other field of a cell changes and no event is created (R23, R33, R38, R43). A
pending restart reaches its boundary at the first INTERVAL_END that ends a superframe with no write in progress or
waiting (R170 item 3; the mark is the model's, log 21). -/
def Obligations.IntervalEndAdvancesClocks : Prop :=
  (∀ (s : State), s.phase = .running →
      ∃ t, exec .intervalEnd s = .next t ∧ s.keepsLinks t ∧ t.runClock = s.runClock + 1 ∧ t.siteTime = s.siteTime + 1 ∧
        t.time.tick = 0 ∧ t.time.interval = s.time.interval + 1 ∧
        t.time.phase = (if s.time.interval = 11 then s.time.phase + 1 else s.time.phase) ∧
        t.time.cycle = (if s.time.interval = 11 ∧ s.time.phase = 7 then s.time.cycle + 1 else s.time.cycle) ∧
        t.time.superframeDue = (if s.time.interval = 11 then true else s.time.superframeDue) ∧
        t.time.cycleDue = (if s.time.interval = 11 ∧ s.time.phase = 7 then true else s.time.cycleDue) ∧
        (∀ c, t.cell c = { s.cell c with
          slots := (t.cell c).slots, work := [], frames := [], claim := none, deaf := false, assembled := false }) ∧
        t.zones = s.zones ∧ t.siteCount = s.siteCount ∧ t.site = s.site ∧ t.store = s.store ∧
        (s.time.interval = 0 ∨ 7 ≤ s.time.interval.val → t.roster = s.roster ∧
          s.sameEvents t ∧ ∀ c, (t.cell c).slots = (s.cell c).slots)) ∧
  (∀ (s : State), s.phase = .running →
      ∃ t, exec .intervalEnd s = .next t ∧
        t.restart = if s.restart = .pending ∧ s.time.interval = 11 ∧ s.store.jobs = [] then .due else s.restart)

/-- The slot close at the end of a report interval (R43, R48, R57): in each operating cell an Expecting record of
the slot becomes Missed, and the entry homed there is closed when it owns its slot and the slot's record is not
Unowned. Heard, its flag and miss count are cleared; unheard, a Calibrating or Supervised entry's miss count rises
up to the limit, where it becomes Missing with DeviceMissing and its relay-lost flag (R49; logs 6 and 40); its
routes are aged. Every other field and record is unchanged. The events carry Site Time as it stands before the
quarter boundary (log 7). A counted slot close that brings the miss count of a Calibrating or Supervised entry to
the limit creates DeviceMissing with the relay-lost flag, set when the entry has a route entry, none is direct, and
each names a relay number held by a Repeater entry that is Missing as the slot is closed (R48, R49; the entry's own
state is taken before the close, log 40). -/
def Obligations.SlotCloseCountsMisses : Prop :=
  (∀ (s : State) (slot : Slot), s.phase = .running → s.time.slot = some slot →
      ∃ t, exec .intervalEnd s = .next t ∧
        (∀ i,
          let d := s.dev i
          let limit := s.site.missLimit
          let aged := fun x : Route =>
            let age := if x.delivered then x.age else min 255 (x.age + 1)
            if x.pinned = false ∧ s.site.routeAge ≤ age then none else some { x with age := age, delivered := false }
          t.dev i = if s.slotCounted slot i then
            { d with
              heard := false
              missCount := if d.heard = true then 0 else if d.life = .missing then d.missCount
                else min (d.missCount + 1) limit
              life := if s.slotDeclares slot i then .missing else d.life
              routes := { first := d.routes.first.bind aged, second := d.routes.second.bind aged } }
          else d) ∧
        (∀ c, (t.cell c).slots =
          if ((s.cell c).state = .running ∨ (s.cell c).state = .stopping) ∧ (s.cell c).slots[slot] = .expecting then
            (s.cell c).slots.set slot .missed
          else (s.cell c).slots) ∧
        (s.createAll (allCells.flatMap fun c =>
          let i := slotIndex c slot
          if s.slotDeclares slot i then [.deviceMissing i (decide (s.relayLostAt slot i))] else [])).sameEvents t) ∧
  (∀ (s : State) (i : DevIx) (flag : Bool),
      let d := s.dev i
      let routes := d.routes.first.toList ++ d.routes.second.toList
      d.heard = false → d.life = .calibrating ∨ d.life = .supervised → s.site.missLimit ≤ d.missCount + 1 →
      (flag = true ↔ routes ≠ [] ∧ ∀ r ∈ routes, r.path ≠ 0 ∧
        ∃ k, (s.dev k).life = .missing ∧ (s.dev k).kind = .repeater ∧ (s.dev k).relay = r.path) →
      s.slotClose i = (s.setDev i { d with
        missCount := s.site.missLimit
        life := .missing
        routes := d.routes.aged s.site.routeAge }).create (.deviceMissing i flag))

/-- A superframe boundary (R28, R32): each cell takes its beacon flag, a second unconfirmed beacon makes a Running
cell Failed, a Stopping cell becomes Off, an Off cell with a pending start becomes Running; then every Running and
Failed cell requests its beacon for tick 655 of the new superframe, and that request is what its Transmit Confirm is
of; a cell that requests none keeps its beacon-confirmed flag (log 39). Each cell that left or took up operation has
Unsupervised added to or removed from its entries, with DeviceFault or DeviceRestored for each that changes, cell by
cell (log 6) in index order; Unsupervised agrees with the cells when it did before (R52, R53). The current beacon's
Transmit Confirm sets a cell's beacon-confirmed flag, and makes a Failed cell Running at once, without reception
until its next interval and with Unsupervised removed from its entries, DeviceRestored telling of each in index
order; every other confirm changes nothing (R28, R40, R45, R52). -/
def Obligations.CellsFollowTheirBeacons : Prop :=
  (∀ (s : State), s.phase = .running → s.time.superframeDue = true →
      let beacon := fun c : CellIx => ([0x10, BitVec.ofNat 8 c.val, BitVec.ofNat 8 s.time.phase.val,
        s.time.cycle.extractLsb' 0 8, if ∃ i, (s.dev i).life = .enrolling then 1 else 0] : List Byte)
      ∃ t, exec .superframeBoundary s = .next t ∧ (s.supervisionSound → t.supervisionSound) ∧ s.keepsLinks t ∧
        s.keepsClocks t ∧ t.zones = s.zones ∧ t.siteCount = s.siteCount ∧ t.store = s.store ∧
        (∀ i, (s.dev i).sameButUnsupervised (t.dev i) ∧ (t.dev i).faults.unsupervised =
          if (s.dev i).life.owns = true ∧ (t.cell (homeCell i)).state ≠ (s.cell (homeCell i)).state then
            decide ((t.cell (homeCell i)).state ≠ .running)
          else (s.dev i).faults.unsupervised) ∧
        (s.createAll (allCells.flatMap fun c =>
          if (t.cell c).state = (s.cell c).state then [] else
            (allDevs.filter fun i => decide (homeCell i = c ∧ (s.dev i).life.owns = true)).flatMap fun i =>
              unsupervisedChange (s.dev i) i (t.cell c))).sameEvents t ∧
        t.time = { s.time with superframeDue := false } ∧
        ∀ c,
          let r := s.cell c
          let q := t.cell c
          let n := if r.beaconConfirmed then 0 else r.unconfirmed + 1
          (match r.state with
          | .running => if n < 2 then q.state = .running ∧ q.unconfirmed = n else q.state = .failed ∧ q.unconfirmed = 2
          | .stopping => q.state = .off ∧ q.unconfirmed = 0
          | .off =>
            if r.startPending = true then q.state = .running ∧ q.startPending = false ∧ q.unconfirmed = 0
            else q.state = .off
          | .failed => q.state = .failed ∧ q.unconfirmed = r.unconfirmed
          | .absent => q.state = .absent) ∧
          (r.state ≠ .off → q.startPending = r.startPending) ∧
          (q.state = .running ∨ q.state = .failed → q.beaconConfirmed = false ∧ q.beaconRequested = true ∧
            q.lastTx = some { interval := 0, tick := 655, channel := r.channel, bytes := beacon c }) ∧
          (q.state = .off ∨ q.state = .absent → q.beaconConfirmed = r.beaconConfirmed ∧ q.beaconRequested = false ∧
            q.lastTx = r.lastTx) ∧
          q = { r with
            state := q.state, startPending := q.startPending, unconfirmed := q.unconfirmed
            beaconConfirmed := q.beaconConfirmed, beaconRequested := q.beaconRequested, lastTx := q.lastTx }) ∧
  (∀ (s : State) (c : CellIx) (x : TxName), s.phase = .running →
      let r := s.cell c
      let current := x.interval = 0 ∧ x.tick = 655 ∧ x.phase = s.time.phase ∧ x.cycle = s.time.cycle ∧
        r.beaconRequested = true ∧ s.time.superframeDue = false ∧ r.state ≠ .absent
      let out := exec (.transmitConfirm c x) s
      (¬current → out = .next s) ∧
      (current → r.state ≠ .failed → out = .next (s.setCell c { r with beaconConfirmed := true })) ∧
      (current → r.state = .failed → ∃ t, out = .next t ∧ s.keepsLinks t ∧ s.keepsClocks t ∧ t.time = s.time ∧
        t.zones = s.zones ∧ t.siteCount = s.siteCount ∧ t.store = s.store ∧
        t.cell c = { r with state := .running, unconfirmed := 0, beaconConfirmed := true, deaf := true } ∧
        (∀ b, b ≠ c → t.cell b = s.cell b) ∧
        (s.createAll (allDevs.flatMap fun i =>
          if homeCell i = c ∧ (s.dev i).life.owns = true ∧ (s.dev i).faults.unsupervised = true then
            [.deviceRestored i (.cause .unsupervised)] else [])).sameEvents t ∧
        ∀ i, (t.dev i) =
          if homeCell i = c ∧ (s.dev i).life.owns = true then
            { s.dev i with faults := { (s.dev i).faults with unsupervised := false } }
          else s.dev i))

/-- A cycle boundary transfers every Announced move (R19): the whole record stands at the target with the old index
as its shadow slot, the old index is Vacant, and a Pending move stays; MoveDone is created for each, in index order
(log 6), with the change of Unsupervised it brings. The store-outstanding flags stay with their indices (log 18). A
roster write covers both indices of every transfer and, as a retry, every index whose store-outstanding flag is set
(R4); while a restart is pending no write is requested and the transferred indices are flagged (R170). Then every
cell but an Absent one prepares its cycle slot record, Expecting for each owned slot and Unowned for the others
(R41). In a state that the roster law allows. -/
def Obligations.CycleBoundaryTransfersMoves : Prop :=
  ∀ (s : State), s.phase = .running → s.time.cycleDue = true → s.restart ≠ .due → s.rosterSound →
    let moves := fun i j : DevIx => (s.dev i).move = some { target := j, stage := .announced }
    let moved := fun k : DevIx => ∃ j, moves k j ∨ moves j k
    let tells := fun i : DevIx => match (s.dev i).move with
      | some { target := j, stage := .announced } =>
        EventBody.moveDone j i :: unsupervisedChange (s.dev i) j (s.cell (homeCell j))
      | _ => []
    ∃ t, exec .cycleBoundary s = .next t ∧ s.keepsLinks t ∧ s.keepsClocks t ∧ t.zones = s.zones ∧
      t.siteCount = s.siteCount ∧ t.time = { s.time with cycleDue := false } ∧
      (s.createAll (allDevs.flatMap tells)).sameEvents t ∧
      (∀ i j, moves i j →
        (t.dev i).life = .vacant ∧
          ∃ on fs, t.dev j = { s.dev i with move := none, shadow := some i, outstanding := on, faults := fs } ∧
            fs = { (s.dev i).faults with unsupervised := fs.unsupervised }) ∧
      (∀ k, ¬moved k → ∃ on, t.dev k = { s.dev k with outstanding := on }) ∧
      (s.restart = .idle →
        (∀ k, (t.dev k).outstanding = (s.dev k).outstanding) ∧
        (∀ k, moved k ∨ (s.dev k).outstanding = true → ∃ j ∈ t.store.jobs, ∃ ixs, j = .roster ixs ∧ k ∈ ixs) ∧
        ((∀ k, ¬moved k ∧ (s.dev k).outstanding = false) → t.store = s.store)) ∧
      (s.restart ≠ .idle → t.store = s.store ∧
        ∀ k, ((t.dev k).outstanding = true ↔ moved k ∨ (s.dev k).outstanding = true)) ∧
      ∀ c h, (s.cell c).state ≠ .absent →
        (t.cell c).slots[(h : Slot)] =
          if (t.dev (slotIndex c h)).life.owns = true ∨
            ∃ k, (t.dev k).life.owns = true ∧ (t.dev k).shadow = some (slotIndex c h)
          then SlotEntry.expecting else SlotEntry.unowned

/-- With no command waiting the part idles: the model's choice, log 2. SUPERFRAME_BOUNDARY and CYCLE_BOUNDARY are
taken once for each boundary the timebase reaches, and CYCLE_BOUNDARY not at the boundary where a restart begins:
the model's marks, log 3 and log 21. PROBE_ANSWER marks its cell answered while the part probes, and is ignored
otherwise (R172), as PROBE_TIMEOUT is (log 20). RESTART_START_UP begins start-up when a restart has reached its
boundary: it answers the probing part with the image in force selected and no write in progress or waiting; it does
nothing before (R170; log 21). -/
def Obligations.StepsNotDueChangeNothing : Prop :=
  (∀ s : State, s.pending = [] → step s = .next s) ∧
  (∀ (s : State), s.phase = .running →
      (s.time.superframeDue = false → exec .superframeBoundary s = .next s) ∧
        (s.time.cycleDue = false ∨ s.restart = .due → exec .cycleBoundary s = .next s)) ∧
  (∀ (s : State) (c : CellIx),
      (∀ v, s.phase = .probing v → exec (.probeAnswer c) s = .next { s with phase := .probing (v.set c true) }) ∧
        ((∀ v, s.phase ≠ .probing v) → exec (.probeAnswer c) s = .next s ∧
          ∀ key, exec (.probeTimeout key) s = .next s) ∧
        (s.phase = .running → s.restart = .due →
          exec .restartStartUp s = exec .startUp { s with phase := .held } ∧
          ∃ x : Store, exec .restartStartUp s =
              .next { s with phase := .probing (Vector.replicate 4 false), store := x } ∧
            x.bank0 = s.store.bank0 ∧ x.bank1 = s.store.bank1 ∧ x.active = none ∧ x.waiting = [] ∧
            (x.invalid = true ↔ x.current = none) ∧
            (x.current = none ↔ s.store.bank0.image = none ∧ s.store.bank1.image = none)) ∧
        (s.phase = .running → s.restart ≠ .due → exec .restartStartUp s = .next s))

/-! ## Condition evaluation (04) -/

/-- The decode of a reading byte (R68 to R70): a fault code adds its cause, drops PreAlarm to Quiet and breaks an
unlatched smoke verification; 253 changes nothing; only the fault set, condition, verification and last reading
change, and DeviceFault is created when the cause was absent. A measurement, 0 to 250 or 254, becomes the last
reading and removes SensorFault, HeadRemoved and SelfTestFailed, each that is present with its DeviceRestored, in
that order and before every other event of the evaluation (R68, R70). -/
def Obligations.FaultCodesDecoded : Prop :=
  (∀ (x : Setting) (d : Device) (r : Byte), d.kind ≠ .repeater →
      let e := evaluation x d r
      (r.toNat = 253 → e.d = d ∧ e.events = [] ∧ e.latch = none) ∧
      ∀ c, (r.toNat = 251 ∧ c = .sensorFault) ∨ (r.toNat = 252 ∧ c = .headRemoved) ∨
          (r.toNat = 255 ∧ c = .selfTestFailed) →
        e.latch = none ∧
        e.events = (if d.faults.has c = true then [] else [.deviceFault x.i c]) ∧
        e.d = { d with
          lastReading := some (r, x.now)
          faults := d.faults.put c true
          cond := if d.cond = .preAlarm then .quiet else d.cond
          verif := if d.kind = .smoke ∧ d.cond ≠ .fireLatched then {} else d.verif }) ∧
  (∀ (x : Setting) (d : Device) (r : Byte), d.kind ≠ .repeater → (r.toNat ≤ 250 ∨ r.toNat = 254) →
      let e := evaluation x d r
      let present := [Cause.sensorFault, .headRemoved, .selfTestFailed].filter fun c => d.faults.has c
      e.d.lastReading = some (r, x.now) ∧
        e.d.faults = { d.faults with
          sensorFault := false, headRemoved := false, selfTestFailed := false
          contaminated := e.d.faults.contaminated } ∧
        ∃ more, e.events = present.map (fun c => .deviceRestored x.i (.cause c)) ++ more ∧
          ∀ c ∈ [Cause.sensorFault, .headRemoved, .selfTestFailed], .deviceRestored x.i (.cause c) ∉ more)

/-- Smoke calibration (R71): a Calibrating entry adds each measurement, 254 as 250, to its sum; the eighth sets the
baseline to twice the sum clamped to 0 to 16L, makes the entry Supervised and clears the drift sums. Drift tracking
(R74 to R76): an evaluation of a Supervised entry that is Quiet when it begins adds 16r − B; the 64th moves the
baseline by S div 64, truncated and clamped to −2 to +2, and clears the sums; the baseline stays within 0 to 16L and
decides Contaminated with its hysteresis of 32 sixteenths. An evaluation in another condition adds nothing. -/
def Obligations.SmokeBaselineTracked : Prop :=
  (∀ (x : Setting) (d : Device) (r : Byte), d.kind = .smoke → d.life = .calibrating →
      (r.toNat ≤ 250 ∨ r.toNat = 254) →
      let v := min 250 r.toNat
      let sum := d.smoke.calSum + v
      let e := (evaluation x d r).d
      (d.smoke.calCount + 1 < 8 → e.life = .calibrating ∧
        (d.smoke.baseline = none → e.smoke = { d.smoke with calCount := d.smoke.calCount + 1, calSum := sum })) ∧
      (d.smoke.baseline = none → d.smoke.calCount + 1 = 8 → e.life = .supervised ∧
        e.smoke = { baseline := some (min (16 * x.zone.params.compLimit) (2 * sum)), calCount := 8, calSum := sum
                    driftSum := 0, driftCount := 0 } ∧
        (16 * x.zone.params.compLimit ≤ 2 * sum → e.faults.contaminated = true))) ∧
  (∀ (x : Setting) (d : Device) (r : Byte) (b : Nat), d.kind = .smoke → d.life = .supervised →
      (r.toNat ≤ 250 ∨ r.toNat = 254) → d.smoke.baseline = some b →
      let limit := 16 * x.zone.params.compLimit
      let sum := d.smoke.driftSum + (16 * ((min 250 r.toNat : Nat) : Int) - (b : Int))
      let stepBy : Int := max (-2) (min 2 (sum.tdiv 64))
      let e := (evaluation x d r).d
      (d.cond ≠ .quiet → e.smoke = d.smoke ∧ e.faults.contaminated = d.faults.contaminated) ∧
      (d.cond = .quiet →
        (d.smoke.driftCount + 1 < 64 → e.smoke =
          { d.smoke with baseline := some (min limit b), driftSum := sum, driftCount := d.smoke.driftCount + 1 }) ∧
        (64 ≤ d.smoke.driftCount + 1 → e.smoke =
          { d.smoke with
            baseline := some (min (limit : Int) ((b : Int) + stepBy)).toNat, driftSum := 0, driftCount := 0 }) ∧
        ∀ b', e.smoke.baseline = some b' → e.faults.contaminated =
          (if b' = limit then true else if b' + 32 < limit then false else d.faults.contaminated)))

/-- The threshold stage (R78, R79) and the verification and latch (R81, R82) of a smoke entry, for the alarm level a
of R73: against the baseline while Supervised, against N while Calibrating, and against the new baseline in the
evaluation that completes calibration (R71). A level at or above Tpre enters PreAlarm, with its event once in a
hold-off, and one below Tpre − 2 leaves it; a candidate, a at or above Tfire, counts while its gap is within the
window and starts again beyond it; any other evaluation clears the count; at V the entry latches with the level and
the elapsed time since the first candidate (also when V was lowered to 1 during the count, log 42). A FireLatched
entry keeps its condition and verification and latches no more (R80). -/
def Obligations.SmokeVerificationLatches : Prop :=
  ∀ (x : Setting) (d : Device) (r : Byte) (a : Nat), d.kind = .smoke → (r.toNat ≤ 250 ∨ r.toNat = 254) →
    1 ≤ x.zone.params.verifications →
    let v := min 250 r.toNat
    let limit := 16 * x.zone.params.compLimit
    let supervisedAt := d.life = .supervised ∧ (d.smoke.baseline.map fun b => v - (b + 8) / 16) = some a
    let calibratingAt := d.life = .calibrating ∧ d.smoke.baseline = none ∧
      a = if d.smoke.calCount + 1 < 8 then v - x.zone.params.nominal
        else v - (min limit (2 * (d.smoke.calSum + v)) + 8) / 16
    supervisedAt ∨ calibratingAt →
    let e := evaluation x d r
    let window := 4 * x.zone.params.verifWindow
    let inTime := 1 ≤ d.verif.count ∧ ∃ t, d.verif.last = some t ∧ x.now - t ≤ window
    let next : Verification :=
      if a < x.zone.tfire then { count := 0, first := none, last := none }
      else if inTime then { count := min 4 (d.verif.count + 1), first := d.verif.first, last := some x.now }
      else { count := 1, first := some x.now, last := some x.now }
    let latches := x.zone.tfire ≤ a ∧ x.zone.params.verifications ≤ next.count
    let pre : Cond := match d.cond with
      | .quiet => if x.zone.tpre ≤ a then .preAlarm else .quiet
      | _ => if a + 2 < x.zone.tpre then .quiet else .preAlarm
    let tells := d.cond = .quiet ∧ x.zone.tpre ≤ a ∧ ∀ t, d.lastPreAlarm = some t → t + 4 * x.holdOff ≤ x.now
    e.d.lastReading = some (r, x.now) ∧
      (tells → .preAlarm x.i a ∈ e.events ∧ e.d.lastPreAlarm = some x.now) ∧
      (¬tells → .preAlarm x.i a ∉ e.events ∧ e.d.lastPreAlarm = d.lastPreAlarm) ∧
      (d.cond ≠ .fireLatched → e.d.verif = next ∧
        (latches → e.d.cond = .fireLatched ∧ e.latch = some (a, x.now - (next.first.getD x.now))) ∧
        (¬latches → e.d.cond = pre ∧ e.latch = none)) ∧
      (d.cond = .fireLatched → e.d.cond = .fireLatched ∧ e.latch = none ∧ e.d.verif = d.verif ∧
        (supervisedAt → e.d.smoke = d.smoke))

/-- A heat evaluation (R83 to R85): the first sets the reference; one a minute or more after it computes the clamped
rate in half-degrees per minute and moves the reference; the entry latches at or above Tfix, or while its rate
stands at or above Rrise, and otherwise follows the pre-alarm test with its hysteresis of 4. A Quiet entry at or
above Tfix less the pre-offset passes through PreAlarm, with its event once in a hold-off (R79). A call point
latches at once on any operated value and holds nothing but its latch and its last reading (R86). -/
def Obligations.HeatAndCallPointLatch : Prop :=
  (∀ (x : Setting) (d : Device) (r : Byte), d.kind = .heat → (r.toNat ≤ 250 ∨ r.toNat = 254) →
      let v := min 250 r.toNat
      let θ : Int := (v : Int) - 40
      let p := x.zone.params
      let e := evaluation x d r
      let rate := fun (θref : Int) (t : Nat) =>
        max (-250) (min 250 (((θ - θref) * 240).tdiv ((x.now - t : Nat) : Int)))
      let heat : HeatState := match d.heat.reference with
        | none => { reference := some (θ, x.now), rate := d.heat.rate }
        | some (θref, t) =>
          if 240 ≤ x.now - t then { reference := some (θ, x.now), rate := some (rate θref t) } else d.heat
      let candidate := (p.tfix : Int) ≤ θ ∨ ∃ ρ, heat.rate = some ρ ∧ (p.rrise : Int) ≤ ρ
      let pre : Int := (p.tfix : Int) - (p.preOffset : Int)
      let tells := d.cond = .quiet ∧ pre ≤ θ ∧ ∀ t, d.lastPreAlarm = some t → t + 4 * x.holdOff ≤ x.now
      e.d.heat = heat ∧
        (tells → .preAlarm x.i v ∈ e.events ∧ e.d.lastPreAlarm = some x.now) ∧
        (¬tells → .preAlarm x.i v ∉ e.events ∧ e.d.lastPreAlarm = d.lastPreAlarm) ∧
        (d.cond = .fireLatched → e.d.cond = .fireLatched ∧ e.latch = none) ∧
        (d.cond ≠ .fireLatched → candidate → e.d.cond = .fireLatched ∧ e.latch = some (v, 0)) ∧
        (d.cond = .quiet → ¬candidate → e.latch = none ∧ e.d.cond = (if pre ≤ θ then .preAlarm else .quiet)) ∧
        (d.cond = .preAlarm → ¬candidate → e.latch = none ∧ e.d.cond = (if θ < pre - 4 then .quiet else .preAlarm))) ∧
  (∀ (x : Setting) (d : Device) (r : Byte), d.kind = .callPoint → (r.toNat ≤ 250 ∨ r.toNat = 254) →
      let e := evaluation x d r
      let operated := 1 ≤ r.toNat
      e.d.lastReading = some (r, x.now) ∧
        (d.cond = .quiet → operated → e.d.cond = .fireLatched ∧ e.latch = some (1, 0)) ∧
        (d.cond ≠ .quiet ∨ ¬operated → e.d.cond = d.cond ∧ e.latch = none) ∧
        e.d.smoke = d.smoke ∧ e.d.heat = d.heat ∧ e.d.verif = d.verif)

/-! ## Zones (05) -/

/-- A latch handed by the evaluator is a test activation under test, a disabled condition while the member or its
zone is disabled, and otherwise a counted latch, which advances the zone's generation and the site alarm count by 1
and creates DeviceFire with the new generation before the roll-up is recomputed (R94, R98 to R101). -/
def Obligations.LatchTakenByCase : Prop :=
  ∀ (s : State) (i : DevIx) (level elapsed : Nat),
    let d := s.dev i
    let z := d.zone
    let r := s.zone z
    s.takeLatch i level elapsed =
      if r.test.isSome = true then
        (s.create (.testActivation i z level)).setDev i
          { d with cond := .quiet, verif := if d.kind = .smoke then {} else d.verif }
      else if d.disabled ≠ {} ∨ r.disabled ≠ {} then s.create (.disabledCondition i z level)
      else
        ({ s.setZone z { r with generation := r.generation + 1 } with siteCount := s.siteCount + 1 }.create
          (.deviceFire i z (r.generation + 1) level elapsed)).recompute z

/-- The roll-up of a zone from its counted members, by its mode (R95, R103, R104): Fire, Alerted, PreAlarm or Quiet.
-/
def Obligations.RollUpByMode : Prop :=
  ∀ (s : State) (z : ZoneIx),
    let r := s.zone z
    let counted := fun i : DevIx => (s.dev i).life.owns = true ∧ (s.dev i).kind ≠ .repeater ∧ (s.dev i).zone = z ∧
      (s.dev i).disabled = {} ∧ r.disabled = {} ∧ r.test = none
    let latched := fun i => counted i ∧ (s.dev i).cond = .fireLatched
    let pair := ∃ i k, i ≠ k ∧ latched i ∧ latched k
    let callPoint := ∃ i, latched i ∧ (s.dev i).kind = .callPoint
    let fire := r.disabled = {} ∧
      (if r.params.mode = .single then ∃ i, latched i else pair ∨ callPoint)
    (s.rollUp z = .fire ↔ fire) ∧
      (s.rollUp z = .alerted ↔ ¬fire ∧ r.params.mode = .corroborated ∧ ∃ i, latched i) ∧
      (s.rollUp z = .preAlarm ↔ ¬fire ∧ (¬∃ i, latched i) ∧ ∃ i, counted i ∧ (s.dev i).cond = .preAlarm)

/-- A recomputation that finds another condition takes it, sets the first-latch time on entering Alerted and removes
it on leaving, removes the acknowledgement when the zone becomes Quiet or PreAlarm, and creates ZoneCondition with
the generation unchanged; one that finds the same condition changes nothing (R105 to R107). CORROBORATION_LAPSE
clears the single counted latch of an Alerted zone when its window has run out, to PreAlarm when its standing test
is met and Quiet otherwise, creates CorroborationLapsed, and recomputes the zone; before the window runs out it
changes nothing (R107, R108). The standing pre-alarm test (R88): a last reading that is a measurement, 254 taken as
250, at or above the pre-alarm threshold, by the alarm level against the Tpre of the zone's active profile for Smoke
and by the temperature against Tfix less the pre-alarm offset for Heat; never met by a Call Point, by a fault code
or without a last reading. -/
def Obligations.ZoneConditionTaken : Prop :=
  (∀ (s : State) (z : ZoneIx),
      let r := s.zone z
      let c := s.rollUp z
      (c = r.cond → s.recompute z = s) ∧
      (c ≠ r.cond → s.recompute z = (s.setZone z { r with
        cond := c
        firstLatch := if c = .alerted then some s.runClock else none
        ack := if c = .quiet ∨ c = .preAlarm then none else r.ack }).create (.zoneCondition z c r.generation))) ∧
  (∀ (s : State) (z : ZoneIx), s.phase = .running →
      let r := s.zone z
      let expired := r.cond = .alerted ∧ ∃ t, r.firstLatch = some t ∧ t + 4 * r.params.corrWindow ≤ s.runClock
      (¬expired → exec (.corroborationLapse z) s = .next s) ∧
      ∀ i, expired → s.countedMember z (s.dev i) = true → (s.dev i).cond = .fireLatched →
        (∀ k, s.countedMember z (s.dev k) = true → (s.dev k).cond = .fireLatched → k = i) →
        exec (.corroborationLapse z) s = .next (((s.setDev i { s.dev i with
          cond := if standingTest (s.dev i) r = true then .preAlarm else .quiet
          verif := if (s.dev i).kind = .smoke then {} else (s.dev i).verif }).create
            (.corroborationLapsed z i r.generation)).recompute z)) ∧
  (∀ (d : Device) (r : Zone),
      let tpre := match r.profile with
        | .normal => r.params.normalTpre
        | .service => r.params.serviceTpre
      (d.lastReading = none → standingTest d r = false) ∧
      (∀ b t, d.lastReading = some (b, t) →
        let v := min 250 b.toNat
        (b.toNat ∈ [251, 252, 255] → standingTest d r = false) ∧
        (b.toNat ≤ 250 ∨ b.toNat = 254 →
          (d.kind = .smoke → (standingTest d r = true ↔ tpre ≤ v - (match d.smoke.baseline with
            | some x => (x + 8) / 16
            | none => r.params.nominal))) ∧
          (d.kind = .heat → (standingTest d r = true ↔
            (r.params.tfix : Int) - (r.params.preOffset : Int) ≤ (v : Int) - 40)) ∧
          (d.kind = .callPoint → standingTest d r = false))))

/-! ## Routes (03, section 3.5) -/

/-- Learning from an accepted copy (R55, R56): a known path's entry takes the running average, age 0 and the
delivered flag; a new path takes the first free position, else replaces the unpinned entry of lower quality, then
greater age, then the second; two pinned entries learn nothing. -/
def Obligations.RoutesLearnAndReplace : Prop :=
  ∀ (x : RoutePair) (p : Path) (level : Nat),
    let y := x.learn p level
    let new : Route := { path := p, quality := level, age := 0, delivered := true, pinned := false }
    (∀ r, x.find p = some r → y.find p = some { r with
      quality := (3 * r.quality + level + 1) / 4, age := 0, delivered := true }) ∧
    (x.find p = none →
      (x.first = none → y = { x with first := some new }) ∧
      (x.first ≠ none → x.second = none → y = { x with second := some new }) ∧
      (∀ a b, x.first = some a → x.second = some b →
        let dropFirst := a.quality < b.quality ∨ (a.quality = b.quality ∧ b.age < a.age)
        (a.pinned = true → b.pinned = true → y = x) ∧
        (a.pinned = true → b.pinned = false → y = { x with second := some new }) ∧
        (a.pinned = false → b.pinned = true → y = { x with first := some new }) ∧
        (a.pinned = false → b.pinned = false →
          y = if dropFirst then { x with first := some new } else { x with second := some new })))

/-- The preferred path: smaller age, then higher quality, then direct before relayed and the lower relay number; the
path of a single entry; direct without entries (R58). -/
def Obligations.PreferredPathOrder : Prop :=
  ∀ (a b : Route),
    let better := a.age < b.age ∨ (a.age = b.age ∧ (b.quality < a.quality ∨
      (a.quality = b.quality ∧ a.path ≤ b.path)))
    ({ first := some a, second := some b } : RoutePair).preferred = (if better then a.path else b.path) ∧
      ({ first := some a, second := none } : RoutePair).preferred = a.path ∧
      ({ first := none, second := some b } : RoutePair).preferred = b.path ∧
      ({ first := none, second := none } : RoutePair).preferred = 0

/-! ## Enrolment deadline, start-up and power (01, 09) -/

/-- ENROLMENT_DEADLINE makes an Enrolling entry whose deadline the run clock has reached Vacant, deletes for a
Repeater the route entries of the others that name its relay number, requests the erasure and creates
EnrolmentTimedOut. The write covers the index and every entry whose route entries were deleted (R11; log 28); while
a restart is pending it is not requested and those indices are flagged store-outstanding. Before the deadline, and
for an entry that is not Enrolling, it changes nothing (R11, R170). -/
def Obligations.DeadlineVacatesEnrolling : Prop :=
  ∀ (s : State) (i : DevIx), s.phase = .running →
    let d := s.dev i
    let reached := d.life = .enrolling ∧ ∃ t, d.deadline = some t ∧ t ≤ s.runClock
    (¬reached → exec (.enrolmentDeadline i) s = .next s) ∧
    (reached → ∃ t, exec (.enrolmentDeadline i) s = .next t ∧ s.keepsLinks t ∧ s.keepsClocks t ∧ t.time = s.time ∧
      t.zones = s.zones ∧ t.siteCount = s.siteCount ∧ t.cells = s.cells ∧
      (s.create (.enrolmentTimedOut i)).sameEvents t ∧
      t.dev i = { outstanding := if s.restart = .idle then d.outstanding else true } ∧
      let loses := fun k : DevIx => d.kind = .repeater ∧
        ∃ r ∈ (s.dev k).routes.first.toList ++ (s.dev k).routes.second.toList, r.path = d.relay
      (s.restart = .idle → ∃ j ∈ t.store.jobs, ∃ ixs, j = .roster ixs ∧ i ∈ ixs ∧ ∀ k, loses k → k ∈ ixs) ∧
      (s.restart ≠ .idle → t.store = s.store) ∧
      ∀ k, k ≠ i → t.dev k = if d.kind = .repeater then
        { s.dev k with
          outstanding := (s.dev k).outstanding || decide (s.restart ≠ .idle ∧ loses k)
          routes :=
            { first := (s.dev k).routes.first.filter fun r => decide (r.path ≠ d.relay)
              second := (s.dev k).routes.second.filter fun r => decide (r.path ≠ d.relay) } } else s.dev k)

/-- Power loss or reset holds the part and loses the write in progress and the waiting ones, whatever the part was
doing; the bank contents and every other field stay until start-up (R170). START_UP of a held part selects the image
in force (R171): the only valid one; of two, the one whose write number is the other's plus 1, and otherwise the
greater; with none valid the configuration-invalid flag is set. It then probes with no cell answered (R172). A part
that is not held does not start up again (log 20). -/
def Obligations.HeldPartSelectsNewerImage : Prop :=
  (∀ s : State, exec .powerLossOrReset s =
      .next { s with phase := .held, store := { s.store with active := none, waiting := [] } }) ∧
  (∀ s : State,
      (s.phase ≠ .held → exec .startUp s = .next s) ∧
      (s.phase = .held → ∃ x : Store,
        exec .startUp s = .next { s with phase := .probing (Vector.replicate 4 false), store := x } ∧
        x.bank0 = s.store.bank0 ∧ x.bank1 = s.store.bank1 ∧ x.active = none ∧ x.waiting = [] ∧
        (x.invalid = true ↔ x.current = none) ∧
        (s.store.bank0.image = none → s.store.bank1.image = none → x.current = none) ∧
        (∀ a, s.store.bank0.image = some a → s.store.bank1.image = none → x.current = some .zero) ∧
        (∀ b, s.store.bank0.image = none → s.store.bank1.image = some b → x.current = some .one) ∧
        (∀ a b, s.store.bank0.image = some a → s.store.bank1.image = some b → a.number ≠ b.number →
          x.current = some (if a.number = b.number + 1 then .zero
            else if b.number = a.number + 1 then .one
            else if b.number < a.number then .zero else .one))))

/-- A write that power loss interrupts never costs the image in force: after the write has started and the part has
been held and started up, the same image is in force (09 introduction, R167, R168, R170, R171). -/
def Obligations.InterruptedWriteKeepsImage : Prop :=
  ∀ (s : State) (j : WriteJob) (im : Image), s.phase = .running → s.store.inForce = some im →
    ∃ t u, exec .powerLossOrReset (s.startWrite j) = .next t ∧ exec .startUp t = .next u ∧
      u.store.inForce = some im ∧ u.store.invalid = false

/-- PROBE_TIMEOUT restores the working state from the image in force, or, when none is, from the default
configuration of empty roster, default parameters and channels 3 + 7c (R171 to R173): a granted entry becomes
Calibrating and another Enrolling with a deadline of 2400, with its pinned routes in their positions and
Unsupervised when granted in an Absent cell; zones take their parameters with their runtime start-up values; events,
links and clocks are at their start-up values; a cell that answered is Running, its slot record prepared (R41) and
its first beacon requested for tick 655 on its settled channel, and any other is Absent with its slot record
Unowned. The channels of the fitted cells are distinct after start-up, and a fitted cell whose stored channel no
lower-numbered fitted cell has taken keeps it; in a clash it takes the lowest channel that no lower-numbered fitted
cell has and no higher-numbered fitted cell has stored; an Absent cell keeps its stored channel (R172). -/
def Obligations.StartUpRestoresImage : Prop :=
  (∀ (s : State) (v : Vector Bool 4) (im : Image) (key : Bool), s.phase = .probing v →
      (s.store.inForce = some im ∨ (s.store.inForce = none ∧ im.roster = Vector.replicate 192 none ∧
        im.zones = Vector.replicate 32 {} ∧ im.channels = #v[3, 10, 17, 24] ∧ im.site = {})) →
      let pin := fun p : Option Path => p.map fun q =>
        ({ path := q, quality := 0, age := 0, delivered := false, pinned := true } : Route)
      ∃ t, exec (.probeTimeout key) s = .next t ∧ t.phase = .running ∧ t.restart = .idle ∧ t.time = {} ∧
        t.runClock = 0 ∧ t.siteTime = 0 ∧ t.siteCount = 0 ∧ t.site = im.site ∧ t.key = key ∧ t.events = [] ∧
        t.nextSeq = 0 ∧ t.portA = {} ∧ t.portB = {} ∧ t.portS = {} ∧ t.panelA = {} ∧ t.panelB = {} ∧
        t.store = s.store ∧
        (∀ z : ZoneIx, t.zone z = { params := im.zones[z] }) ∧
        (∀ i : DevIx, im.roster[i] = none → t.dev i = {}) ∧
        (∀ (i : DevIx) (e : StoredEntry), im.roster[i] = some e → t.dev i =
          { life := if e.granted = true then .calibrating else .enrolling
            identity := e.identity, kind := e.kind, zone := e.zone, relay := e.relay, granted := e.granted
            deadline := if e.granted = true then none else some 2400
            faults := { unsupervised := e.granted && !v[homeCell i] }
            routes := { first := pin e.pinFirst, second := pin e.pinSecond } }) ∧
        let beacon := fun c : CellIx => ([0x10, BitVec.ofNat 8 c.val, 0, 0,
          if ∃ i, (t.dev i).life = .enrolling then 1 else 0] : List Byte)
        ∀ c : CellIx,
          let channel := (settledChannels im.channels v)[c]
          (v[c] = true → t.cell c =
            { state := .running, channel := channel, beaconRequested := true
              slots := Vector.ofFn fun h => if (t.dev (slotIndex c h)).life.owns = true then .expecting else .unowned
              lastTx := some { interval := 0, tick := 655, channel := channel, bytes := beacon c } }) ∧
          (v[c] = false → t.cell c = { state := .absent, channel := im.channels[c] })) ∧
  (∀ (stored : Vector Channel 4) (fitted : Vector Bool 4),
      let settled := settledChannels stored fitted
      (∀ c d : CellIx, c ≠ d → fitted[c] = true → fitted[d] = true → settled[c] ≠ settled[d]) ∧
        (∀ c : CellIx, fitted[c] = true → (∀ k : CellIx, k < c → fitted[k] = true → settled[k] ≠ stored[c]) →
          settled[c] = stored[c]) ∧
        (∀ c : CellIx, fitted[c] = true → (∃ k : CellIx, k < c ∧ fitted[k] = true ∧ settled[k] = stored[c]) →
          let free := fun ch : Channel => (∀ k : CellIx, k < c → fitted[k] = true → settled[k] ≠ ch) ∧
            ∀ k : CellIx, c < k → fitted[k] = true → stored[k] ≠ ch
          free settled[c] ∧ ∀ ch : Channel, ch < settled[c] → ¬free ch) ∧
        (∀ c : CellIx, fitted[c] = false → settled[c] = stored[c]))

/-! ## Frames and bytes (08, section 8.1) -/

/-- The CRC of the nine characters "123456789" is 0x29B1 (R150). The frame receiver by states (R149): lead, length 3
to 60, body, first CRC byte; every other byte in Hunting and a length out of range leave or return it to Hunting.
Nothing but the receiver changes. A frame with a bad CRC and a gap inside a frame put the receiver in Hunting and
change nothing else; in particular no last frame time moves (R149, R150). A frame taken while its link holds four
responses is discarded, whatever its code: it changes nothing but its receiver (R151). A response wholly sent leaves
the front of those its link holds, and nothing else changes (R151). -/
def Obligations.ReceiverTakesBytes : Prop :=
  (crc16 [0x31, 0x32, 0x33, 0x34, 0x35, 0x36, 0x37, 0x38, 0x39] = 0x29B1) ∧
  (∀ (s : State) (l : Link) (key : Bool) (b : Byte), s.phase = .running →
      let out := exec (.frameByteReceived l key b) s
      let rx := fun x : Receiver => out = .next (s.setPort l { s.port l with rx := x })
      ((s.port l).rx = .hunting → rx (if b.toNat = 0xC3 then .length else .hunting)) ∧
      ((s.port l).rx = .length → rx (if 3 ≤ b.toNat ∧ b.toNat ≤ 60 then .body b.toNat [] else .hunting)) ∧
      (∀ n got, (s.port l).rx = .body n got →
        rx (if got.length + 1 < n then .body n (got ++ [b]) else .check n (got ++ [b]) none)) ∧
      (∀ n got, (s.port l).rx = .check n got none → rx (.check n got (some b))) ∧
      (∀ n got high, (s.port l).rx = .check n got (some high) → high ++ b ≠ frameCrc n got → rx .hunting)) ∧
  (∀ (s : State) (l : Link), s.phase = .running →
      exec (.frameCrcDiscard l) s = .next (s.setPort l { s.port l with rx := .hunting }) ∧
        exec (.frameGapTimeout l) s = .next (s.setPort l { s.port l with rx := .hunting })) ∧
  (∀ (s : State) (h : FrameHead) (code : Byte) (ops : List Byte), s.phase = .running →
      4 ≤ (s.port h.link).responses.length →
      takeFrame h code ops s = .next (s.setPort h.link { s.port h.link with rx := .hunting })) ∧
  (∀ (s : State) (l : Link) (r : Response) (rest : List Response), s.phase = .running →
      (s.port l).responses = r :: rest →
      exec (.responseWhollySent l) s = .next (s.setPort l { s.port l with responses := rest }))

/-- Received byte by byte, a command frame has the effect of the command it carries: from Hunting, the bytes that
`commandFrame` lays out lead, one FRAME_BYTE_RECEIVED after another, to the outcome of taking the frame, for every
head, code and operands that a frame can carry (R149, R150, section 10.2). -/
def Obligations.FrameBytesTakeTheFrame : Prop :=
  ∀ (s : State) (h : FrameHead) (code : Byte) (ops : List Byte), s.phase = .running →
    (s.port h.link).rx = .hunting → ops.length ≤ maxOperands →
    ∃ t, takeFrame h code ops s = .next t ∧
      (commandFrame h code ops).foldl (fun o b =>
        match o with
        | .next u => exec (.frameByteReceived h.link h.key b) u
        | .fault f => .fault f
        | .refused r => .refused r) (.next s) = Host.Outcome.next t

/-! ## Laws of the whole part -/

/-- Every step keeps the law of the Event Store: at most 256 events, each with a non-empty pending set of attached
links (R135). -/
def Obligations.StepKeepsEventStoreLaw : Prop :=
  ∀ s t : State, s.storeSound → step s = .next t → t.storeSound

/-- Every step keeps the laws of zone records: a first-latch time exactly while Alerted, an acknowledgement only in
alarm, a profile expiry exactly on the Service profile (R106, R107, R110). -/
def Obligations.StepKeepsZoneLaws : Prop :=
  ∀ s t : State, s.zonesSound → step s = .next t → t.zonesSound

/-- Every step keeps the roster law: sound records, no slot claimed by two devices, and an enrolment being written
at an index that stays free (R1 to R3, R17, R46, R169). -/
def Obligations.StepKeepsRosterLaw : Prop :=
  ∀ s t : State, s.rosterSound → step s = .next t → t.rosterSound

/-- Every step keeps R53: an owning entry holds Unsupervised exactly when its home cell is Off, Failed or Absent. -/
def Obligations.StepKeepsSupervisionLaw : Prop :=
  ∀ s t : State, s.supervisionSound → step s = .next t → t.supervisionSound

/-- The state after reset obeys the laws that every step keeps. -/
def Obligations.ResetObeysLaws : Prop :=
  State.reset.storeSound ∧ State.reset.zonesSound ∧ State.reset.rosterSound ∧ State.reset.supervisionSound
end

