-- ==== Sys2Proof/Laws/State.lean ====
section
/-! SUPPORT. The small lemmas of the state updates: one lemma per field per update, and what the accessors read after
each update. -/

namespace Sys2Proof.Machine

variable (s : State)

/-! ## setDev -/

@[simp] theorem State.setDev_phase (i : DevIx) (d : Device) : (s.setDev i d).phase = s.phase := rfl
@[simp] theorem State.setDev_restart (i : DevIx) (d : Device) : (s.setDev i d).restart = s.restart := rfl
@[simp] theorem State.setDev_time (i : DevIx) (d : Device) : (s.setDev i d).time = s.time := rfl
@[simp] theorem State.setDev_runClock (i : DevIx) (d : Device) : (s.setDev i d).runClock = s.runClock := rfl
@[simp] theorem State.setDev_siteTime (i : DevIx) (d : Device) : (s.setDev i d).siteTime = s.siteTime := rfl
@[simp] theorem State.setDev_key (i : DevIx) (d : Device) : (s.setDev i d).key = s.key := rfl
@[simp] theorem State.setDev_zones (i : DevIx) (d : Device) : (s.setDev i d).zones = s.zones := rfl
@[simp] theorem State.setDev_siteCount (i : DevIx) (d : Device) : (s.setDev i d).siteCount = s.siteCount := rfl
@[simp] theorem State.setDev_cells (i : DevIx) (d : Device) : (s.setDev i d).cells = s.cells := rfl
@[simp] theorem State.setDev_site (i : DevIx) (d : Device) : (s.setDev i d).site = s.site := rfl
@[simp] theorem State.setDev_events (i : DevIx) (d : Device) : (s.setDev i d).events = s.events := rfl
@[simp] theorem State.setDev_nextSeq (i : DevIx) (d : Device) : (s.setDev i d).nextSeq = s.nextSeq := rfl
@[simp] theorem State.setDev_portA (i : DevIx) (d : Device) : (s.setDev i d).portA = s.portA := rfl
@[simp] theorem State.setDev_portB (i : DevIx) (d : Device) : (s.setDev i d).portB = s.portB := rfl
@[simp] theorem State.setDev_portS (i : DevIx) (d : Device) : (s.setDev i d).portS = s.portS := rfl
@[simp] theorem State.setDev_panelA (i : DevIx) (d : Device) : (s.setDev i d).panelA = s.panelA := rfl
@[simp] theorem State.setDev_panelB (i : DevIx) (d : Device) : (s.setDev i d).panelB = s.panelB := rfl
@[simp] theorem State.setDev_store (i : DevIx) (d : Device) : (s.setDev i d).store = s.store := rfl
@[simp] theorem State.setDev_pending (i : DevIx) (d : Device) : (s.setDev i d).pending = s.pending := rfl

@[simp] theorem State.setDev_zone (i : DevIx) (d : Device) (y : ZoneIx) : (s.setDev i d).zone y = s.zone y := rfl
@[simp] theorem State.setDev_cell (i : DevIx) (d : Device) (b : CellIx) : (s.setDev i d).cell b = s.cell b := rfl
@[simp] theorem State.setDev_port (i : DevIx) (d : Device) (m : Link) : (s.setDev i d).port m = s.port m := by
  cases m <;> rfl
@[simp] theorem State.setDev_panel (i : DevIx) (d : Device) (q : Panel) : (s.setDev i d).panel q = s.panel q := by
  cases q <;> rfl

/-! ## mapDevs -/

@[simp] theorem State.mapDevs_phase (f : DevIx → Device → Device) : (s.mapDevs f).phase = s.phase := by simp only [State.mapDevs]
@[simp] theorem State.mapDevs_restart (f : DevIx → Device → Device) : (s.mapDevs f).restart = s.restart := by simp only [State.mapDevs]
@[simp] theorem State.mapDevs_time (f : DevIx → Device → Device) : (s.mapDevs f).time = s.time := by simp only [State.mapDevs]
@[simp] theorem State.mapDevs_runClock (f : DevIx → Device → Device) : (s.mapDevs f).runClock = s.runClock := by simp only [State.mapDevs]
@[simp] theorem State.mapDevs_siteTime (f : DevIx → Device → Device) : (s.mapDevs f).siteTime = s.siteTime := by simp only [State.mapDevs]
@[simp] theorem State.mapDevs_key (f : DevIx → Device → Device) : (s.mapDevs f).key = s.key := by simp only [State.mapDevs]
@[simp] theorem State.mapDevs_zones (f : DevIx → Device → Device) : (s.mapDevs f).zones = s.zones := by simp only [State.mapDevs]
@[simp] theorem State.mapDevs_siteCount (f : DevIx → Device → Device) : (s.mapDevs f).siteCount = s.siteCount := by simp only [State.mapDevs]
@[simp] theorem State.mapDevs_cells (f : DevIx → Device → Device) : (s.mapDevs f).cells = s.cells := by simp only [State.mapDevs]
@[simp] theorem State.mapDevs_site (f : DevIx → Device → Device) : (s.mapDevs f).site = s.site := by simp only [State.mapDevs]
@[simp] theorem State.mapDevs_events (f : DevIx → Device → Device) : (s.mapDevs f).events = s.events := by simp only [State.mapDevs]
@[simp] theorem State.mapDevs_nextSeq (f : DevIx → Device → Device) : (s.mapDevs f).nextSeq = s.nextSeq := by simp only [State.mapDevs]
@[simp] theorem State.mapDevs_portA (f : DevIx → Device → Device) : (s.mapDevs f).portA = s.portA := by simp only [State.mapDevs]
@[simp] theorem State.mapDevs_portB (f : DevIx → Device → Device) : (s.mapDevs f).portB = s.portB := by simp only [State.mapDevs]
@[simp] theorem State.mapDevs_portS (f : DevIx → Device → Device) : (s.mapDevs f).portS = s.portS := by simp only [State.mapDevs]
@[simp] theorem State.mapDevs_panelA (f : DevIx → Device → Device) : (s.mapDevs f).panelA = s.panelA := by simp only [State.mapDevs]
@[simp] theorem State.mapDevs_panelB (f : DevIx → Device → Device) : (s.mapDevs f).panelB = s.panelB := by simp only [State.mapDevs]
@[simp] theorem State.mapDevs_store (f : DevIx → Device → Device) : (s.mapDevs f).store = s.store := by simp only [State.mapDevs]
@[simp] theorem State.mapDevs_pending (f : DevIx → Device → Device) : (s.mapDevs f).pending = s.pending := by simp only [State.mapDevs]

@[simp] theorem State.mapDevs_zone (f : DevIx → Device → Device) (y : ZoneIx) : (s.mapDevs f).zone y = s.zone y := by simp [State.zone]
@[simp] theorem State.mapDevs_cell (f : DevIx → Device → Device) (b : CellIx) : (s.mapDevs f).cell b = s.cell b := by simp [State.cell]
@[simp] theorem State.mapDevs_port (f : DevIx → Device → Device) (m : Link) : (s.mapDevs f).port m = s.port m := by
  cases m <;> simp [State.port]
@[simp] theorem State.mapDevs_panel (f : DevIx → Device → Device) (q : Panel) : (s.mapDevs f).panel q = s.panel q := by
  cases q <;> simp [State.panel]

/-! ## setZone -/

@[simp] theorem State.setZone_phase (z : ZoneIx) (r : Zone) : (s.setZone z r).phase = s.phase := rfl
@[simp] theorem State.setZone_restart (z : ZoneIx) (r : Zone) : (s.setZone z r).restart = s.restart := rfl
@[simp] theorem State.setZone_time (z : ZoneIx) (r : Zone) : (s.setZone z r).time = s.time := rfl
@[simp] theorem State.setZone_runClock (z : ZoneIx) (r : Zone) : (s.setZone z r).runClock = s.runClock := rfl
@[simp] theorem State.setZone_siteTime (z : ZoneIx) (r : Zone) : (s.setZone z r).siteTime = s.siteTime := rfl
@[simp] theorem State.setZone_key (z : ZoneIx) (r : Zone) : (s.setZone z r).key = s.key := rfl
@[simp] theorem State.setZone_roster (z : ZoneIx) (r : Zone) : (s.setZone z r).roster = s.roster := rfl
@[simp] theorem State.setZone_siteCount (z : ZoneIx) (r : Zone) : (s.setZone z r).siteCount = s.siteCount := rfl
@[simp] theorem State.setZone_cells (z : ZoneIx) (r : Zone) : (s.setZone z r).cells = s.cells := rfl
@[simp] theorem State.setZone_site (z : ZoneIx) (r : Zone) : (s.setZone z r).site = s.site := rfl
@[simp] theorem State.setZone_events (z : ZoneIx) (r : Zone) : (s.setZone z r).events = s.events := rfl
@[simp] theorem State.setZone_nextSeq (z : ZoneIx) (r : Zone) : (s.setZone z r).nextSeq = s.nextSeq := rfl
@[simp] theorem State.setZone_portA (z : ZoneIx) (r : Zone) : (s.setZone z r).portA = s.portA := rfl
@[simp] theorem State.setZone_portB (z : ZoneIx) (r : Zone) : (s.setZone z r).portB = s.portB := rfl
@[simp] theorem State.setZone_portS (z : ZoneIx) (r : Zone) : (s.setZone z r).portS = s.portS := rfl
@[simp] theorem State.setZone_panelA (z : ZoneIx) (r : Zone) : (s.setZone z r).panelA = s.panelA := rfl
@[simp] theorem State.setZone_panelB (z : ZoneIx) (r : Zone) : (s.setZone z r).panelB = s.panelB := rfl
@[simp] theorem State.setZone_store (z : ZoneIx) (r : Zone) : (s.setZone z r).store = s.store := rfl
@[simp] theorem State.setZone_pending (z : ZoneIx) (r : Zone) : (s.setZone z r).pending = s.pending := rfl

@[simp] theorem State.setZone_dev (z : ZoneIx) (r : Zone) (k : DevIx) : (s.setZone z r).dev k = s.dev k := rfl
@[simp] theorem State.setZone_cell (z : ZoneIx) (r : Zone) (b : CellIx) : (s.setZone z r).cell b = s.cell b := rfl
@[simp] theorem State.setZone_port (z : ZoneIx) (r : Zone) (m : Link) : (s.setZone z r).port m = s.port m := by
  cases m <;> rfl
@[simp] theorem State.setZone_panel (z : ZoneIx) (r : Zone) (q : Panel) : (s.setZone z r).panel q = s.panel q := by
  cases q <;> rfl

/-! ## setCell -/

@[simp] theorem State.setCell_phase (c : CellIx) (r : Cell) : (s.setCell c r).phase = s.phase := rfl
@[simp] theorem State.setCell_restart (c : CellIx) (r : Cell) : (s.setCell c r).restart = s.restart := rfl
@[simp] theorem State.setCell_time (c : CellIx) (r : Cell) : (s.setCell c r).time = s.time := rfl
@[simp] theorem State.setCell_runClock (c : CellIx) (r : Cell) : (s.setCell c r).runClock = s.runClock := rfl
@[simp] theorem State.setCell_siteTime (c : CellIx) (r : Cell) : (s.setCell c r).siteTime = s.siteTime := rfl
@[simp] theorem State.setCell_key (c : CellIx) (r : Cell) : (s.setCell c r).key = s.key := rfl
@[simp] theorem State.setCell_roster (c : CellIx) (r : Cell) : (s.setCell c r).roster = s.roster := rfl
@[simp] theorem State.setCell_zones (c : CellIx) (r : Cell) : (s.setCell c r).zones = s.zones := rfl
@[simp] theorem State.setCell_siteCount (c : CellIx) (r : Cell) : (s.setCell c r).siteCount = s.siteCount := rfl
@[simp] theorem State.setCell_site (c : CellIx) (r : Cell) : (s.setCell c r).site = s.site := rfl
@[simp] theorem State.setCell_events (c : CellIx) (r : Cell) : (s.setCell c r).events = s.events := rfl
@[simp] theorem State.setCell_nextSeq (c : CellIx) (r : Cell) : (s.setCell c r).nextSeq = s.nextSeq := rfl
@[simp] theorem State.setCell_portA (c : CellIx) (r : Cell) : (s.setCell c r).portA = s.portA := rfl
@[simp] theorem State.setCell_portB (c : CellIx) (r : Cell) : (s.setCell c r).portB = s.portB := rfl
@[simp] theorem State.setCell_portS (c : CellIx) (r : Cell) : (s.setCell c r).portS = s.portS := rfl
@[simp] theorem State.setCell_panelA (c : CellIx) (r : Cell) : (s.setCell c r).panelA = s.panelA := rfl
@[simp] theorem State.setCell_panelB (c : CellIx) (r : Cell) : (s.setCell c r).panelB = s.panelB := rfl
@[simp] theorem State.setCell_store (c : CellIx) (r : Cell) : (s.setCell c r).store = s.store := rfl
@[simp] theorem State.setCell_pending (c : CellIx) (r : Cell) : (s.setCell c r).pending = s.pending := rfl

@[simp] theorem State.setCell_dev (c : CellIx) (r : Cell) (k : DevIx) : (s.setCell c r).dev k = s.dev k := rfl
@[simp] theorem State.setCell_zone (c : CellIx) (r : Cell) (y : ZoneIx) : (s.setCell c r).zone y = s.zone y := rfl
@[simp] theorem State.setCell_port (c : CellIx) (r : Cell) (m : Link) : (s.setCell c r).port m = s.port m := by
  cases m <;> rfl
@[simp] theorem State.setCell_panel (c : CellIx) (r : Cell) (q : Panel) : (s.setCell c r).panel q = s.panel q := by
  cases q <;> rfl

/-! ## setPort -/

@[simp] theorem State.setPort_phase (l : Link) (p : Port) : (s.setPort l p).phase = s.phase := by cases l <;> rfl
@[simp] theorem State.setPort_restart (l : Link) (p : Port) : (s.setPort l p).restart = s.restart := by cases l <;> rfl
@[simp] theorem State.setPort_time (l : Link) (p : Port) : (s.setPort l p).time = s.time := by cases l <;> rfl
@[simp] theorem State.setPort_runClock (l : Link) (p : Port) : (s.setPort l p).runClock = s.runClock := by cases l <;> rfl
@[simp] theorem State.setPort_siteTime (l : Link) (p : Port) : (s.setPort l p).siteTime = s.siteTime := by cases l <;> rfl
@[simp] theorem State.setPort_key (l : Link) (p : Port) : (s.setPort l p).key = s.key := by cases l <;> rfl
@[simp] theorem State.setPort_roster (l : Link) (p : Port) : (s.setPort l p).roster = s.roster := by cases l <;> rfl
@[simp] theorem State.setPort_zones (l : Link) (p : Port) : (s.setPort l p).zones = s.zones := by cases l <;> rfl
@[simp] theorem State.setPort_siteCount (l : Link) (p : Port) : (s.setPort l p).siteCount = s.siteCount := by cases l <;> rfl
@[simp] theorem State.setPort_cells (l : Link) (p : Port) : (s.setPort l p).cells = s.cells := by cases l <;> rfl
@[simp] theorem State.setPort_site (l : Link) (p : Port) : (s.setPort l p).site = s.site := by cases l <;> rfl
@[simp] theorem State.setPort_events (l : Link) (p : Port) : (s.setPort l p).events = s.events := by cases l <;> rfl
@[simp] theorem State.setPort_nextSeq (l : Link) (p : Port) : (s.setPort l p).nextSeq = s.nextSeq := by cases l <;> rfl
@[simp] theorem State.setPort_panelA (l : Link) (p : Port) : (s.setPort l p).panelA = s.panelA := by cases l <;> rfl
@[simp] theorem State.setPort_panelB (l : Link) (p : Port) : (s.setPort l p).panelB = s.panelB := by cases l <;> rfl
@[simp] theorem State.setPort_store (l : Link) (p : Port) : (s.setPort l p).store = s.store := by cases l <;> rfl
@[simp] theorem State.setPort_pending (l : Link) (p : Port) : (s.setPort l p).pending = s.pending := by cases l <;> rfl

@[simp] theorem State.setPort_dev (l : Link) (p : Port) (k : DevIx) : (s.setPort l p).dev k = s.dev k := by cases l <;> rfl
@[simp] theorem State.setPort_zone (l : Link) (p : Port) (y : ZoneIx) : (s.setPort l p).zone y = s.zone y := by cases l <;> rfl
@[simp] theorem State.setPort_cell (l : Link) (p : Port) (b : CellIx) : (s.setPort l p).cell b = s.cell b := by cases l <;> rfl
@[simp] theorem State.setPort_panel (l : Link) (p : Port) (q : Panel) : (s.setPort l p).panel q = s.panel q := by
  cases q <;> cases l <;> rfl

/-! ## setPanel -/

@[simp] theorem State.setPanel_phase (p : Panel) (d : Delivery) : (s.setPanel p d).phase = s.phase := by cases p <;> rfl
@[simp] theorem State.setPanel_restart (p : Panel) (d : Delivery) : (s.setPanel p d).restart = s.restart := by cases p <;> rfl
@[simp] theorem State.setPanel_time (p : Panel) (d : Delivery) : (s.setPanel p d).time = s.time := by cases p <;> rfl
@[simp] theorem State.setPanel_runClock (p : Panel) (d : Delivery) : (s.setPanel p d).runClock = s.runClock := by cases p <;> rfl
@[simp] theorem State.setPanel_siteTime (p : Panel) (d : Delivery) : (s.setPanel p d).siteTime = s.siteTime := by cases p <;> rfl
@[simp] theorem State.setPanel_key (p : Panel) (d : Delivery) : (s.setPanel p d).key = s.key := by cases p <;> rfl
@[simp] theorem State.setPanel_roster (p : Panel) (d : Delivery) : (s.setPanel p d).roster = s.roster := by cases p <;> rfl
@[simp] theorem State.setPanel_zones (p : Panel) (d : Delivery) : (s.setPanel p d).zones = s.zones := by cases p <;> rfl
@[simp] theorem State.setPanel_siteCount (p : Panel) (d : Delivery) : (s.setPanel p d).siteCount = s.siteCount := by cases p <;> rfl
@[simp] theorem State.setPanel_cells (p : Panel) (d : Delivery) : (s.setPanel p d).cells = s.cells := by cases p <;> rfl
@[simp] theorem State.setPanel_site (p : Panel) (d : Delivery) : (s.setPanel p d).site = s.site := by cases p <;> rfl
@[simp] theorem State.setPanel_events (p : Panel) (d : Delivery) : (s.setPanel p d).events = s.events := by cases p <;> rfl
@[simp] theorem State.setPanel_nextSeq (p : Panel) (d : Delivery) : (s.setPanel p d).nextSeq = s.nextSeq := by cases p <;> rfl
@[simp] theorem State.setPanel_portA (p : Panel) (d : Delivery) : (s.setPanel p d).portA = s.portA := by cases p <;> rfl
@[simp] theorem State.setPanel_portB (p : Panel) (d : Delivery) : (s.setPanel p d).portB = s.portB := by cases p <;> rfl
@[simp] theorem State.setPanel_portS (p : Panel) (d : Delivery) : (s.setPanel p d).portS = s.portS := by cases p <;> rfl
@[simp] theorem State.setPanel_store (p : Panel) (d : Delivery) : (s.setPanel p d).store = s.store := by cases p <;> rfl
@[simp] theorem State.setPanel_pending (p : Panel) (d : Delivery) : (s.setPanel p d).pending = s.pending := by cases p <;> rfl

@[simp] theorem State.setPanel_dev (p : Panel) (d : Delivery) (k : DevIx) : (s.setPanel p d).dev k = s.dev k := by cases p <;> rfl
@[simp] theorem State.setPanel_zone (p : Panel) (d : Delivery) (y : ZoneIx) : (s.setPanel p d).zone y = s.zone y := by cases p <;> rfl
@[simp] theorem State.setPanel_cell (p : Panel) (d : Delivery) (b : CellIx) : (s.setPanel p d).cell b = s.cell b := by cases p <;> rfl
@[simp] theorem State.setPanel_port (p : Panel) (d : Delivery) (m : Link) : (s.setPanel p d).port m = s.port m := by
  cases m <;> cases p <;> rfl

/-! ## Reading what was written -/

@[simp] theorem State.dev_setDev_self (i : DevIx) (d : Device) : (s.setDev i d).dev i = d := by
  simp [State.dev, State.setDev]

theorem State.dev_setDev_ne {i k : DevIx} (d : Device) (h : k ≠ i) : (s.setDev i d).dev k = s.dev k := by
  have : i.val ≠ k.val := fun e => h (Fin.ext e.symm)
  simp [State.dev, State.setDev, this]

theorem State.dev_setDev (i k : DevIx) (d : Device) : (s.setDev i d).dev k = if k = i then d else s.dev k := by
  split
  · next h => subst h; simp
  · next h => exact s.dev_setDev_ne d h

@[simp] theorem State.dev_mapDevs (f : DevIx → Device → Device) (i : DevIx) :
    (s.mapDevs f).dev i = f i (s.dev i) := by
  simp [State.dev, State.mapDevs]

@[simp] theorem State.zone_setZone_self (z : ZoneIx) (r : Zone) : (s.setZone z r).zone z = r := by
  simp [State.zone, State.setZone]

theorem State.zone_setZone (z y : ZoneIx) (r : Zone) :
    (s.setZone z r).zone y = if y = z then r else s.zone y := by
  split
  · next h => subst h; simp
  · next h =>
    have : z.val ≠ y.val := fun e => h (Fin.ext e.symm)
    simp [State.zone, State.setZone, this]

@[simp] theorem State.cell_setCell_self (c : CellIx) (r : Cell) : (s.setCell c r).cell c = r := by
  simp [State.cell, State.setCell]

theorem State.cell_setCell (c b : CellIx) (r : Cell) :
    (s.setCell c r).cell b = if b = c then r else s.cell b := by
  split
  · next h => subst h; simp
  · next h =>
    have : c.val ≠ b.val := fun e => h (Fin.ext e.symm)
    simp [State.cell, State.setCell, this]

@[simp] theorem State.port_setPort_self (l : Link) (p : Port) : (s.setPort l p).port l = p := by cases l <;> rfl

theorem State.port_setPort (l m : Link) (p : Port) :
    (s.setPort l p).port m = if m = l then p else s.port m := by
  cases l <;> cases m <;> rfl

@[simp] theorem State.panel_setPanel_self (p : Panel) (d : Delivery) : (s.setPanel p d).panel p = d := by
  cases p <;> rfl

theorem State.panel_setPanel (p q : Panel) (d : Delivery) :
    (s.setPanel p d).panel q = if q = p then d else s.panel q := by
  cases p <;> cases q <;> rfl

/-! ## Updates by a function -/

@[simp] theorem State.modDev_eq (i : DevIx) (f : Device → Device) : s.modDev i f = s.setDev i (f (s.dev i)) := rfl

@[simp] theorem State.modZone_eq (z : ZoneIx) (f : Zone → Zone) : s.modZone z f = s.setZone z (f (s.zone z)) := rfl

@[simp] theorem State.modCell_eq (c : CellIx) (f : Cell → Cell) : s.modCell c f = s.setCell c (f (s.cell c)) := rfl

@[simp] theorem State.setPort_setPort (l : Link) (p q : Port) : (s.setPort l p).setPort l q = s.setPort l q := by
  cases l <;> rfl

end Sys2Proof.Machine
end

