-- ==== Sys2Proof/Laws/Ops.lean ====
section
/-! SUPPORT. The spec lemmas of the shared operations: what creating an event, answering, taking a frame and carrying out
a command can do, said once. -/

namespace Sys2Proof.Machine

variable (s : State)

/-! ## Creating events (R131 to R137) -/

@[simp] theorem State.raiseLost_phase (e : Event) : (s.raiseLost e).phase = s.phase := rfl
@[simp] theorem State.raiseLost_restart (e : Event) : (s.raiseLost e).restart = s.restart := rfl
@[simp] theorem State.raiseLost_time (e : Event) : (s.raiseLost e).time = s.time := rfl
@[simp] theorem State.raiseLost_runClock (e : Event) : (s.raiseLost e).runClock = s.runClock := rfl
@[simp] theorem State.raiseLost_siteTime (e : Event) : (s.raiseLost e).siteTime = s.siteTime := rfl
@[simp] theorem State.raiseLost_key (e : Event) : (s.raiseLost e).key = s.key := rfl
@[simp] theorem State.raiseLost_roster (e : Event) : (s.raiseLost e).roster = s.roster := rfl
@[simp] theorem State.raiseLost_zones (e : Event) : (s.raiseLost e).zones = s.zones := rfl
@[simp] theorem State.raiseLost_siteCount (e : Event) : (s.raiseLost e).siteCount = s.siteCount := rfl
@[simp] theorem State.raiseLost_cells (e : Event) : (s.raiseLost e).cells = s.cells := rfl
@[simp] theorem State.raiseLost_site (e : Event) : (s.raiseLost e).site = s.site := rfl
@[simp] theorem State.raiseLost_portA (e : Event) : (s.raiseLost e).portA = s.portA := rfl
@[simp] theorem State.raiseLost_portB (e : Event) : (s.raiseLost e).portB = s.portB := rfl
@[simp] theorem State.raiseLost_portS (e : Event) : (s.raiseLost e).portS = s.portS := rfl
@[simp] theorem State.raiseLost_store (e : Event) : (s.raiseLost e).store = s.store := rfl
@[simp] theorem State.raiseLost_pending (e : Event) : (s.raiseLost e).pending = s.pending := rfl
@[simp] theorem State.raiseLost_events (e : Event) : (s.raiseLost e).events = s.events := rfl
@[simp] theorem State.raiseLost_nextSeq (e : Event) : (s.raiseLost e).nextSeq = s.nextSeq := rfl

/-- Storing an event changes the stored events and the lost flags of the panel links alone. -/
theorem State.storeEvent_cases (e : Event) :
    (s.events.length < 256 ∧ s.storeEvent e = { s with events := s.events ++ [e] }) ∨
      (256 ≤ s.events.length ∧ s.storeEvent e = s.raiseLost e) ∨
        (256 ≤ s.events.length ∧ ∃ c v, victimClass s.events e.body.cls = some c ∧
          s.events.find? (fun x => x.body.cls = c) = some v ∧
          s.storeEvent e = { s.raiseLost v with events := s.events.eraseP (fun x => x.body.cls = c) ++ [e] }) := by
  unfold State.storeEvent
  split
  · next h => exact .inl ⟨h, rfl⟩
  · next h =>
    have h' : 256 ≤ s.events.length := by omega
    split
    · exact .inr (.inl ⟨h', rfl⟩)
    · next c hc =>
      split
      · exact .inr (.inl ⟨h', rfl⟩)
      · next v hv => exact .inr (.inr ⟨h', c, v, hc, hv, rfl⟩)

@[simp] theorem State.storeEvent_phase (e : Event) : (s.storeEvent e).phase = s.phase := by
  rcases s.storeEvent_cases e with ⟨-, h⟩ | ⟨-, h⟩ | ⟨-, c, v, -, -, h⟩ <;> rw [h] <;> rfl
@[simp] theorem State.storeEvent_restart (e : Event) : (s.storeEvent e).restart = s.restart := by
  rcases s.storeEvent_cases e with ⟨-, h⟩ | ⟨-, h⟩ | ⟨-, c, v, -, -, h⟩ <;> rw [h] <;> rfl
@[simp] theorem State.storeEvent_time (e : Event) : (s.storeEvent e).time = s.time := by
  rcases s.storeEvent_cases e with ⟨-, h⟩ | ⟨-, h⟩ | ⟨-, c, v, -, -, h⟩ <;> rw [h] <;> rfl
@[simp] theorem State.storeEvent_runClock (e : Event) : (s.storeEvent e).runClock = s.runClock := by
  rcases s.storeEvent_cases e with ⟨-, h⟩ | ⟨-, h⟩ | ⟨-, c, v, -, -, h⟩ <;> rw [h] <;> rfl
@[simp] theorem State.storeEvent_siteTime (e : Event) : (s.storeEvent e).siteTime = s.siteTime := by
  rcases s.storeEvent_cases e with ⟨-, h⟩ | ⟨-, h⟩ | ⟨-, c, v, -, -, h⟩ <;> rw [h] <;> rfl
@[simp] theorem State.storeEvent_key (e : Event) : (s.storeEvent e).key = s.key := by
  rcases s.storeEvent_cases e with ⟨-, h⟩ | ⟨-, h⟩ | ⟨-, c, v, -, -, h⟩ <;> rw [h] <;> rfl
@[simp] theorem State.storeEvent_roster (e : Event) : (s.storeEvent e).roster = s.roster := by
  rcases s.storeEvent_cases e with ⟨-, h⟩ | ⟨-, h⟩ | ⟨-, c, v, -, -, h⟩ <;> rw [h] <;> rfl
@[simp] theorem State.storeEvent_zones (e : Event) : (s.storeEvent e).zones = s.zones := by
  rcases s.storeEvent_cases e with ⟨-, h⟩ | ⟨-, h⟩ | ⟨-, c, v, -, -, h⟩ <;> rw [h] <;> rfl
@[simp] theorem State.storeEvent_siteCount (e : Event) : (s.storeEvent e).siteCount = s.siteCount := by
  rcases s.storeEvent_cases e with ⟨-, h⟩ | ⟨-, h⟩ | ⟨-, c, v, -, -, h⟩ <;> rw [h] <;> rfl
@[simp] theorem State.storeEvent_cells (e : Event) : (s.storeEvent e).cells = s.cells := by
  rcases s.storeEvent_cases e with ⟨-, h⟩ | ⟨-, h⟩ | ⟨-, c, v, -, -, h⟩ <;> rw [h] <;> rfl
@[simp] theorem State.storeEvent_site (e : Event) : (s.storeEvent e).site = s.site := by
  rcases s.storeEvent_cases e with ⟨-, h⟩ | ⟨-, h⟩ | ⟨-, c, v, -, -, h⟩ <;> rw [h] <;> rfl
@[simp] theorem State.storeEvent_portA (e : Event) : (s.storeEvent e).portA = s.portA := by
  rcases s.storeEvent_cases e with ⟨-, h⟩ | ⟨-, h⟩ | ⟨-, c, v, -, -, h⟩ <;> rw [h] <;> rfl
@[simp] theorem State.storeEvent_portB (e : Event) : (s.storeEvent e).portB = s.portB := by
  rcases s.storeEvent_cases e with ⟨-, h⟩ | ⟨-, h⟩ | ⟨-, c, v, -, -, h⟩ <;> rw [h] <;> rfl
@[simp] theorem State.storeEvent_portS (e : Event) : (s.storeEvent e).portS = s.portS := by
  rcases s.storeEvent_cases e with ⟨-, h⟩ | ⟨-, h⟩ | ⟨-, c, v, -, -, h⟩ <;> rw [h] <;> rfl
@[simp] theorem State.storeEvent_store (e : Event) : (s.storeEvent e).store = s.store := by
  rcases s.storeEvent_cases e with ⟨-, h⟩ | ⟨-, h⟩ | ⟨-, c, v, -, -, h⟩ <;> rw [h] <;> rfl
@[simp] theorem State.storeEvent_pending (e : Event) : (s.storeEvent e).pending = s.pending := by
  rcases s.storeEvent_cases e with ⟨-, h⟩ | ⟨-, h⟩ | ⟨-, c, v, -, -, h⟩ <;> rw [h] <;> rfl
@[simp] theorem State.storeEvent_nextSeq (e : Event) : (s.storeEvent e).nextSeq = s.nextSeq := by
  rcases s.storeEvent_cases e with ⟨-, h⟩ | ⟨-, h⟩ | ⟨-, c, v, -, -, h⟩ <;> rw [h] <;> rfl

/-- A created event takes the next sequence number, and is stored exactly when its pending set is not empty (R132,
R134). -/
theorem State.create_eq (b : EventBody) :
    s.create b = if (s.newEvent b).pending.isEmpty then { s with nextSeq := s.nextSeq + 1 }
      else { s with nextSeq := s.nextSeq + 1 }.storeEvent (s.newEvent b) := rfl

@[simp] theorem State.create_nextSeq (b : EventBody) : (s.create b).nextSeq = s.nextSeq + 1 := by
  rw [State.create_eq]; split <;> simp

@[simp] theorem State.create_phase (b : EventBody) : (s.create b).phase = s.phase := by
  rw [State.create_eq]; split <;> simp
@[simp] theorem State.create_restart (b : EventBody) : (s.create b).restart = s.restart := by
  rw [State.create_eq]; split <;> simp
@[simp] theorem State.create_time (b : EventBody) : (s.create b).time = s.time := by
  rw [State.create_eq]; split <;> simp
@[simp] theorem State.create_runClock (b : EventBody) : (s.create b).runClock = s.runClock := by
  rw [State.create_eq]; split <;> simp
@[simp] theorem State.create_siteTime (b : EventBody) : (s.create b).siteTime = s.siteTime := by
  rw [State.create_eq]; split <;> simp
@[simp] theorem State.create_key (b : EventBody) : (s.create b).key = s.key := by
  rw [State.create_eq]; split <;> simp
@[simp] theorem State.create_roster (b : EventBody) : (s.create b).roster = s.roster := by
  rw [State.create_eq]; split <;> simp
@[simp] theorem State.create_zones (b : EventBody) : (s.create b).zones = s.zones := by
  rw [State.create_eq]; split <;> simp
@[simp] theorem State.create_siteCount (b : EventBody) : (s.create b).siteCount = s.siteCount := by
  rw [State.create_eq]; split <;> simp
@[simp] theorem State.create_cells (b : EventBody) : (s.create b).cells = s.cells := by
  rw [State.create_eq]; split <;> simp
@[simp] theorem State.create_site (b : EventBody) : (s.create b).site = s.site := by
  rw [State.create_eq]; split <;> simp
@[simp] theorem State.create_portA (b : EventBody) : (s.create b).portA = s.portA := by
  rw [State.create_eq]; split <;> simp
@[simp] theorem State.create_portB (b : EventBody) : (s.create b).portB = s.portB := by
  rw [State.create_eq]; split <;> simp
@[simp] theorem State.create_portS (b : EventBody) : (s.create b).portS = s.portS := by
  rw [State.create_eq]; split <;> simp
@[simp] theorem State.create_store (b : EventBody) : (s.create b).store = s.store := by
  rw [State.create_eq]; split <;> simp
@[simp] theorem State.create_pending (b : EventBody) : (s.create b).pending = s.pending := by
  rw [State.create_eq]; split <;> simp

@[simp] theorem State.create_dev (b : EventBody) (i : DevIx) : (s.create b).dev i = s.dev i := by
  simp [State.dev]
@[simp] theorem State.create_zone (b : EventBody) (z : ZoneIx) : (s.create b).zone z = s.zone z := by
  simp [State.zone]
@[simp] theorem State.create_cell (b : EventBody) (c : CellIx) : (s.create b).cell c = s.cell c := by
  simp [State.cell]
@[simp] theorem State.create_port (b : EventBody) (l : Link) : (s.create b).port l = s.port l := by
  cases l <;> simp [State.port]

@[simp] theorem State.createAll_nil : s.createAll [] = s := rfl

@[simp] theorem State.createAll_cons (b : EventBody) (bs : List EventBody) :
    s.createAll (b :: bs) = (s.create b).createAll bs := rfl

@[simp] theorem State.createAll_phase (bs : List EventBody) : (s.createAll bs).phase = s.phase := by
  induction bs generalizing s with
  | nil => rfl
  | cons b bs ih => simp [ih]
@[simp] theorem State.createAll_restart (bs : List EventBody) : (s.createAll bs).restart = s.restart := by
  induction bs generalizing s with
  | nil => rfl
  | cons b bs ih => simp [ih]
@[simp] theorem State.createAll_time (bs : List EventBody) : (s.createAll bs).time = s.time := by
  induction bs generalizing s with
  | nil => rfl
  | cons b bs ih => simp [ih]
@[simp] theorem State.createAll_runClock (bs : List EventBody) : (s.createAll bs).runClock = s.runClock := by
  induction bs generalizing s with
  | nil => rfl
  | cons b bs ih => simp [ih]
@[simp] theorem State.createAll_siteTime (bs : List EventBody) : (s.createAll bs).siteTime = s.siteTime := by
  induction bs generalizing s with
  | nil => rfl
  | cons b bs ih => simp [ih]
@[simp] theorem State.createAll_key (bs : List EventBody) : (s.createAll bs).key = s.key := by
  induction bs generalizing s with
  | nil => rfl
  | cons b bs ih => simp [ih]
@[simp] theorem State.createAll_roster (bs : List EventBody) : (s.createAll bs).roster = s.roster := by
  induction bs generalizing s with
  | nil => rfl
  | cons b bs ih => simp [ih]
@[simp] theorem State.createAll_zones (bs : List EventBody) : (s.createAll bs).zones = s.zones := by
  induction bs generalizing s with
  | nil => rfl
  | cons b bs ih => simp [ih]
@[simp] theorem State.createAll_siteCount (bs : List EventBody) : (s.createAll bs).siteCount = s.siteCount := by
  induction bs generalizing s with
  | nil => rfl
  | cons b bs ih => simp [ih]
@[simp] theorem State.createAll_cells (bs : List EventBody) : (s.createAll bs).cells = s.cells := by
  induction bs generalizing s with
  | nil => rfl
  | cons b bs ih => simp [ih]
@[simp] theorem State.createAll_site (bs : List EventBody) : (s.createAll bs).site = s.site := by
  induction bs generalizing s with
  | nil => rfl
  | cons b bs ih => simp [ih]
@[simp] theorem State.createAll_portA (bs : List EventBody) : (s.createAll bs).portA = s.portA := by
  induction bs generalizing s with
  | nil => rfl
  | cons b bs ih => simp [ih]
@[simp] theorem State.createAll_portB (bs : List EventBody) : (s.createAll bs).portB = s.portB := by
  induction bs generalizing s with
  | nil => rfl
  | cons b bs ih => simp [ih]
@[simp] theorem State.createAll_portS (bs : List EventBody) : (s.createAll bs).portS = s.portS := by
  induction bs generalizing s with
  | nil => rfl
  | cons b bs ih => simp [ih]
@[simp] theorem State.createAll_store (bs : List EventBody) : (s.createAll bs).store = s.store := by
  induction bs generalizing s with
  | nil => rfl
  | cons b bs ih => simp [ih]
@[simp] theorem State.createAll_pending (bs : List EventBody) : (s.createAll bs).pending = s.pending := by
  induction bs generalizing s with
  | nil => rfl
  | cons b bs ih => simp [ih]

@[simp] theorem State.createAll_dev (bs : List EventBody) (i : DevIx) : (s.createAll bs).dev i = s.dev i := by
  simp [State.dev]
@[simp] theorem State.createAll_zone (bs : List EventBody) (z : ZoneIx) : (s.createAll bs).zone z = s.zone z := by
  simp [State.zone]
@[simp] theorem State.createAll_cell (bs : List EventBody) (c : CellIx) : (s.createAll bs).cell c = s.cell c := by
  simp [State.cell]
@[simp] theorem State.createAll_port (bs : List EventBody) (l : Link) : (s.createAll bs).port l = s.port l := by
  cases l <;> simp [State.port]

/-! ## Answers and frames (R150 to R155) -/

/-- With fewer than four responses held, a response is held as the next one (R151). -/
theorem State.reply_of_answers {h : FrameHead} {r : Reply} (hs : s.answers h.link) :
    s.reply h r = s.sends h.link h.tag r := by
  unfold State.answers at hs
  simp [State.reply, State.answer, State.sends, hs]

/-- A frame taken on a Ready link, with no restart pending and fewer than four responses held, is carried on with the
receiver in Hunting and the frame's marks set (R150 to R152). -/
theorem State.onFrame_of_ready {h : FrameHead} (f : State → State) (hr : s.restart = .idle)
    (he : (s.port h.link).executing = none) (hn : s.answers h.link) : s.onFrame h f = f (s.taken h) := by
  obtain ⟨l, key, tag, level⟩ := h
  simp only [State.answers] at hn
  cases l <;>
    simp_all [State.onFrame, State.taken, State.hunt, State.frameTakenOn, State.busyWith, State.port,
      State.setPort]

@[simp] theorem State.taken_phase (h : FrameHead) : (s.taken h).phase = s.phase := by
  obtain ⟨l, key, tag, level⟩ := h
  cases l <;> rfl

theorem State.taken_answers {h : FrameHead} (hn : s.answers h.link) : (s.taken h).answers h.link := by
  obtain ⟨l, key, tag, level⟩ := h
  cases l <;> exact hn

/-- The link checks pass when the operand count is right and the level lies within the grant and meets the
requirement (R155 checks 1, 3 and 4). -/
theorem linkChecks_of_level {h : FrameHead} {c : Command} {n : Nat} (hn : n = c.operands)
    (hg : h.level.toNat ≤ h.link.grant h.key) (hl : c.level h.link ≤ h.level.toNat) :
    linkChecks h c n = .ok () := by
  simp [linkChecks, check, hn, hg, hl]
  rfl

/-- A command whose frame is taken and passes the link checks is decided by its own checks and effect (R155). -/
theorem State.command_of_takes {h : FrameHead} {c : Command} {ops : List Byte}
    {body : State → Except Reply (Reply × State)} (ht : s.takes h c) (hn : ops.length = c.operands) :
    s.command h c ops body =
      match body (s.taken h) with
      | .error r => (s.taken h).reply h r
      | .ok (r, t) => t.reply h r := by
  obtain ⟨hp, hr, he, ha, hg, hl⟩ := ht
  simp only [State.command, State.whenRunning, hp, if_true]
  rw [s.onFrame_of_ready _ hr he ha, linkChecks_of_level hn hg hl]
  first | done | rfl

/-- A writing command whose frame is taken and passes the link checks (R152, R155). -/
theorem State.writeCommand_of_takes {h : FrameHead} {c : Command} {ops : List Byte}
    {body : State → Except Reply CommandWrite} (ht : s.takes h c) (hn : ops.length = c.operands) :
    s.writeCommand h c ops body =
      match body (s.taken h) with
      | .error r => (s.taken h).reply h r
      | .ok w => ((s.taken h).setPort h.link
          { (s.taken h).port h.link with executing := some (c, h.tag) }).requestWrite (.command w) := by
  obtain ⟨hp, hr, he, ha, hg, hl⟩ := ht
  simp only [State.writeCommand, State.whenRunning, hp, if_true]
  rw [s.onFrame_of_ready _ hr he ha, linkChecks_of_level hn hg hl]
  first | done | rfl

end Sys2Proof.Machine
end

