-- ==== Sys2Proof/Laws/Actions.lean ====
section
/-! SUPPORT. The spec lemmas of the zone operations and of the store's operations: what each can change, said once. -/

namespace Sys2Proof.Machine

variable (s : State)

/-! ## Counted latches (R99) and recomputation (R105) -/

@[simp] theorem State.beginLatch_phase (i : DevIx) (a b : Nat) : (s.beginLatch i a b).phase = s.phase := by
  simp [State.beginLatch, State.modZone]
@[simp] theorem State.beginLatch_restart (i : DevIx) (a b : Nat) : (s.beginLatch i a b).restart = s.restart := by
  simp [State.beginLatch, State.modZone]
@[simp] theorem State.beginLatch_time (i : DevIx) (a b : Nat) : (s.beginLatch i a b).time = s.time := by
  simp [State.beginLatch, State.modZone]
@[simp] theorem State.beginLatch_runClock (i : DevIx) (a b : Nat) : (s.beginLatch i a b).runClock = s.runClock := by
  simp [State.beginLatch, State.modZone]
@[simp] theorem State.beginLatch_siteTime (i : DevIx) (a b : Nat) : (s.beginLatch i a b).siteTime = s.siteTime := by
  simp [State.beginLatch, State.modZone]
@[simp] theorem State.beginLatch_key (i : DevIx) (a b : Nat) : (s.beginLatch i a b).key = s.key := by
  simp [State.beginLatch, State.modZone]
@[simp] theorem State.beginLatch_roster (i : DevIx) (a b : Nat) : (s.beginLatch i a b).roster = s.roster := by
  simp [State.beginLatch, State.modZone]
@[simp] theorem State.beginLatch_cells (i : DevIx) (a b : Nat) : (s.beginLatch i a b).cells = s.cells := by
  simp [State.beginLatch, State.modZone]
@[simp] theorem State.beginLatch_site (i : DevIx) (a b : Nat) : (s.beginLatch i a b).site = s.site := by
  simp [State.beginLatch, State.modZone]
@[simp] theorem State.beginLatch_portA (i : DevIx) (a b : Nat) : (s.beginLatch i a b).portA = s.portA := by
  simp [State.beginLatch, State.modZone]
@[simp] theorem State.beginLatch_portB (i : DevIx) (a b : Nat) : (s.beginLatch i a b).portB = s.portB := by
  simp [State.beginLatch, State.modZone]
@[simp] theorem State.beginLatch_portS (i : DevIx) (a b : Nat) : (s.beginLatch i a b).portS = s.portS := by
  simp [State.beginLatch, State.modZone]
@[simp] theorem State.beginLatch_store (i : DevIx) (a b : Nat) : (s.beginLatch i a b).store = s.store := by
  simp [State.beginLatch, State.modZone]
@[simp] theorem State.beginLatch_pending (i : DevIx) (a b : Nat) : (s.beginLatch i a b).pending = s.pending := by
  simp [State.beginLatch, State.modZone]
@[simp] theorem State.beginLatch_dev (i k : DevIx) (a b : Nat) : (s.beginLatch i a b).dev k = s.dev k := by
  simp [State.dev]
@[simp] theorem State.beginLatch_siteCount (i : DevIx) (a b : Nat) :
    (s.beginLatch i a b).siteCount = s.siteCount + 1 := by
  simp [State.beginLatch, State.modZone]
@[simp] theorem State.beginLatch_nextSeq (i : DevIx) (a b : Nat) :
    (s.beginLatch i a b).nextSeq = s.nextSeq + 1 := by
  simp [State.beginLatch, State.modZone]

@[simp] theorem State.recompute_phase (z : ZoneIx) : (s.recompute z).phase = s.phase := by
  simp only [State.recompute, State.modZone]; split <;> simp
@[simp] theorem State.recompute_restart (z : ZoneIx) : (s.recompute z).restart = s.restart := by
  simp only [State.recompute, State.modZone]; split <;> simp
@[simp] theorem State.recompute_time (z : ZoneIx) : (s.recompute z).time = s.time := by
  simp only [State.recompute, State.modZone]; split <;> simp
@[simp] theorem State.recompute_runClock (z : ZoneIx) : (s.recompute z).runClock = s.runClock := by
  simp only [State.recompute, State.modZone]; split <;> simp
@[simp] theorem State.recompute_siteTime (z : ZoneIx) : (s.recompute z).siteTime = s.siteTime := by
  simp only [State.recompute, State.modZone]; split <;> simp
@[simp] theorem State.recompute_key (z : ZoneIx) : (s.recompute z).key = s.key := by
  simp only [State.recompute, State.modZone]; split <;> simp
@[simp] theorem State.recompute_roster (z : ZoneIx) : (s.recompute z).roster = s.roster := by
  simp only [State.recompute, State.modZone]; split <;> simp
@[simp] theorem State.recompute_siteCount (z : ZoneIx) : (s.recompute z).siteCount = s.siteCount := by
  simp only [State.recompute, State.modZone]; split <;> simp
@[simp] theorem State.recompute_cells (z : ZoneIx) : (s.recompute z).cells = s.cells := by
  simp only [State.recompute, State.modZone]; split <;> simp
@[simp] theorem State.recompute_site (z : ZoneIx) : (s.recompute z).site = s.site := by
  simp only [State.recompute, State.modZone]; split <;> simp
@[simp] theorem State.recompute_portA (z : ZoneIx) : (s.recompute z).portA = s.portA := by
  simp only [State.recompute, State.modZone]; split <;> simp
@[simp] theorem State.recompute_portB (z : ZoneIx) : (s.recompute z).portB = s.portB := by
  simp only [State.recompute, State.modZone]; split <;> simp
@[simp] theorem State.recompute_portS (z : ZoneIx) : (s.recompute z).portS = s.portS := by
  simp only [State.recompute, State.modZone]; split <;> simp
@[simp] theorem State.recompute_store (z : ZoneIx) : (s.recompute z).store = s.store := by
  simp only [State.recompute, State.modZone]; split <;> simp
@[simp] theorem State.recompute_pending (z : ZoneIx) : (s.recompute z).pending = s.pending := by
  simp only [State.recompute, State.modZone]; split <;> simp
@[simp] theorem State.recompute_dev (z : ZoneIx) (i : DevIx) : (s.recompute z).dev i = s.dev i := by
  simp [State.dev]
@[simp] theorem State.recompute_cell (z : ZoneIx) (c : CellIx) : (s.recompute z).cell c = s.cell c := by
  simp [State.cell]
@[simp] theorem State.recompute_port (z : ZoneIx) (l : Link) : (s.recompute z).port l = s.port l := by
  cases l <;> simp [State.port]

/-- A recomputation of zone z leaves the records of the other zones. -/
theorem State.recompute_zone_of_ne {y z : ZoneIx} (h : y ≠ z) : (s.recompute z).zone y = s.zone y := by
  simp only [State.recompute, State.modZone]
  split
  · rfl
  · simp [State.zone_setZone, h]

/-- A recomputation of zone z leaves its generation, profile, test, disablement and parameters. -/
theorem State.recompute_kept (z y : ZoneIx) :
    ((s.recompute z).zone y).generation = (s.zone y).generation ∧
      ((s.recompute z).zone y).profile = (s.zone y).profile ∧
      ((s.recompute z).zone y).profileExpiry = (s.zone y).profileExpiry ∧
      ((s.recompute z).zone y).test = (s.zone y).test ∧
      ((s.recompute z).zone y).disabled = (s.zone y).disabled ∧
      ((s.recompute z).zone y).params = (s.zone y).params := by
  by_cases h : y = z
  · subst h
    simp only [State.recompute, State.modZone]
    split <;> simp [Zone.withCond]
  · simp [s.recompute_zone_of_ne h]

/-! ## The frame of an identity (R36) -/

/-- An identity has no frame in the interval exactly when no cell has one on its list. -/
theorem State.frameOf_eq_none (identity : BitVec 24) :
    s.frameOf identity = none ↔ ∀ c, ∀ g ∈ (s.cell c).frames, g.identity ≠ identity := by
  simp only [State.frameOf, List.find?_eq_none, List.mem_flatMap, decide_eq_true_eq]
  exact ⟨fun h c g hg => h g ⟨c, List.mem_finRange c, hg⟩, fun h g ⟨c, _, hg⟩ => h c g hg⟩

/-- A copy of an identity that has its frame in the interval goes to the Route Table alone (R36). -/
theorem State.handFrame_later {c : CellIx} {i : DevIx} {via : SlotKind} {f : Sample} {x : Copy}
    (h : (s.frameOf f.identity).isSome) :
    s.handFrame c i via f x = s.modDev i fun d => { d with routes := d.routes.learn f.path x.level.val } := by
  simp [State.handFrame, h]

/-! ## Write requests (R169) -/

@[simp] theorem State.startWrite_phase (j : WriteJob) : (s.startWrite j).phase = s.phase := rfl
@[simp] theorem State.startWrite_restart (j : WriteJob) : (s.startWrite j).restart = s.restart := rfl
@[simp] theorem State.startWrite_time (j : WriteJob) : (s.startWrite j).time = s.time := rfl
@[simp] theorem State.startWrite_runClock (j : WriteJob) : (s.startWrite j).runClock = s.runClock := rfl
@[simp] theorem State.startWrite_siteTime (j : WriteJob) : (s.startWrite j).siteTime = s.siteTime := rfl
@[simp] theorem State.startWrite_key (j : WriteJob) : (s.startWrite j).key = s.key := rfl
@[simp] theorem State.startWrite_roster (j : WriteJob) : (s.startWrite j).roster = s.roster := rfl
@[simp] theorem State.startWrite_zones (j : WriteJob) : (s.startWrite j).zones = s.zones := rfl
@[simp] theorem State.startWrite_siteCount (j : WriteJob) : (s.startWrite j).siteCount = s.siteCount := rfl
@[simp] theorem State.startWrite_cells (j : WriteJob) : (s.startWrite j).cells = s.cells := rfl
@[simp] theorem State.startWrite_site (j : WriteJob) : (s.startWrite j).site = s.site := rfl
@[simp] theorem State.startWrite_events (j : WriteJob) : (s.startWrite j).events = s.events := rfl
@[simp] theorem State.startWrite_nextSeq (j : WriteJob) : (s.startWrite j).nextSeq = s.nextSeq := rfl
@[simp] theorem State.startWrite_portA (j : WriteJob) : (s.startWrite j).portA = s.portA := rfl
@[simp] theorem State.startWrite_portB (j : WriteJob) : (s.startWrite j).portB = s.portB := rfl
@[simp] theorem State.startWrite_portS (j : WriteJob) : (s.startWrite j).portS = s.portS := rfl
@[simp] theorem State.startWrite_panelA (j : WriteJob) : (s.startWrite j).panelA = s.panelA := rfl
@[simp] theorem State.startWrite_panelB (j : WriteJob) : (s.startWrite j).panelB = s.panelB := rfl
@[simp] theorem State.startWrite_pending (j : WriteJob) : (s.startWrite j).pending = s.pending := rfl

@[simp] theorem State.requestWrite_phase (j : WriteJob) : (s.requestWrite j).phase = s.phase := by
  simp only [State.requestWrite]; split <;> rfl
@[simp] theorem State.requestWrite_restart (j : WriteJob) : (s.requestWrite j).restart = s.restart := by
  simp only [State.requestWrite]; split <;> rfl
@[simp] theorem State.requestWrite_time (j : WriteJob) : (s.requestWrite j).time = s.time := by
  simp only [State.requestWrite]; split <;> rfl
@[simp] theorem State.requestWrite_runClock (j : WriteJob) : (s.requestWrite j).runClock = s.runClock := by
  simp only [State.requestWrite]; split <;> rfl
@[simp] theorem State.requestWrite_siteTime (j : WriteJob) : (s.requestWrite j).siteTime = s.siteTime := by
  simp only [State.requestWrite]; split <;> rfl
@[simp] theorem State.requestWrite_key (j : WriteJob) : (s.requestWrite j).key = s.key := by
  simp only [State.requestWrite]; split <;> rfl
@[simp] theorem State.requestWrite_roster (j : WriteJob) : (s.requestWrite j).roster = s.roster := by
  simp only [State.requestWrite]; split <;> rfl
@[simp] theorem State.requestWrite_zones (j : WriteJob) : (s.requestWrite j).zones = s.zones := by
  simp only [State.requestWrite]; split <;> rfl
@[simp] theorem State.requestWrite_siteCount (j : WriteJob) : (s.requestWrite j).siteCount = s.siteCount := by
  simp only [State.requestWrite]; split <;> rfl
@[simp] theorem State.requestWrite_cells (j : WriteJob) : (s.requestWrite j).cells = s.cells := by
  simp only [State.requestWrite]; split <;> rfl
@[simp] theorem State.requestWrite_site (j : WriteJob) : (s.requestWrite j).site = s.site := by
  simp only [State.requestWrite]; split <;> rfl
@[simp] theorem State.requestWrite_events (j : WriteJob) : (s.requestWrite j).events = s.events := by
  simp only [State.requestWrite]; split <;> rfl
@[simp] theorem State.requestWrite_nextSeq (j : WriteJob) : (s.requestWrite j).nextSeq = s.nextSeq := by
  simp only [State.requestWrite]; split <;> rfl
@[simp] theorem State.requestWrite_portA (j : WriteJob) : (s.requestWrite j).portA = s.portA := by
  simp only [State.requestWrite]; split <;> rfl
@[simp] theorem State.requestWrite_portB (j : WriteJob) : (s.requestWrite j).portB = s.portB := by
  simp only [State.requestWrite]; split <;> rfl
@[simp] theorem State.requestWrite_portS (j : WriteJob) : (s.requestWrite j).portS = s.portS := by
  simp only [State.requestWrite]; split <;> rfl
@[simp] theorem State.requestWrite_panelA (j : WriteJob) : (s.requestWrite j).panelA = s.panelA := by
  simp only [State.requestWrite]; split <;> rfl
@[simp] theorem State.requestWrite_panelB (j : WriteJob) : (s.requestWrite j).panelB = s.panelB := by
  simp only [State.requestWrite]; split <;> rfl
@[simp] theorem State.requestWrite_pending (j : WriteJob) : (s.requestWrite j).pending = s.pending := by
  simp only [State.requestWrite]; split <;> rfl

/-- A bank that holds an image with its own CRC has that image (R167). -/
@[simp] theorem Image.sealed_image (im : Image) : im.sealed.image = some im := by simp [Image.sealed, Bank.image]

@[simp] theorem Bank.erased_image : Bank.erased.image = none := rfl
@[simp] theorem Bank.spoiled_image : Bank.spoiled.image = none := rfl

/-- A bank gives an image exactly when it holds that image with its CRC (R167). -/
theorem Bank.image_eq_some (b : Bank) (im : Image) : b.image = some im ↔ b = im.sealed := by
  cases b with
  | erased => simp [Bank.image, Image.sealed]
  | spoiled => simp [Bank.image, Image.sealed]
  | holds i crc =>
    simp only [Bank.image, Image.sealed, Bank.holds.injEq]
    by_cases h : crc = i.crc <;> simp [h]
    · rintro rfl; rfl
    · rintro rfl; exact h

/-- The start of a write leaves the bank in force and what waits. -/
theorem State.startWrite_store (j : WriteJob) :
    (s.startWrite j).store.current = s.store.current ∧ (s.startWrite j).store.inForce = s.store.inForce ∧
      (s.startWrite j).store.waiting = s.store.waiting ∧ (s.startWrite j).store.invalid = s.store.invalid ∧
      (s.startWrite j).store.active =
        some { job := j, image := s.composed j, replaced := s.replaces j } := by
  refine ⟨?_, ?_, ?_, ?_, ?_⟩ <;> simp only [State.startWrite, Store.inForce, Store.target] <;>
    rcases hc : s.store.current with _ | (_ | _) <;> simp [Store.setBank, Store.bank, hc]

/-- A pin added to a stored entry is stored. -/
theorem StoredEntry.addPin_pins (e : StoredEntry) (p : Path) (x : RoutePair) : (e.addPin p x).pins p = true := by
  simp only [StoredEntry.addPin]
  split
  · assumption
  · split <;> [skip; split <;> [skip; split]] <;> simp [StoredEntry.pins]

/-- A pin added to a stored entry that has a position free loses no other stored pin. -/
theorem StoredEntry.addPin_keeps {e : StoredEntry} {p q : Path} (x : RoutePair)
    (free : e.pinFirst = none ∨ e.pinSecond = none) (h : e.pins q = true) : (e.addPin p x).pins q = true := by
  obtain ⟨identity, kind, zone, relay, granted, a, b⟩ := e
  rcases a with _ | a <;> rcases b with _ | b <;> simp_all [StoredEntry.addPin, StoredEntry.pins] <;>
    split <;> simp_all

/-- The image of a pin over an image in force: the entry of an index whose store-outstanding flag is clear keeps what it
stores beside the route added (R168). -/
theorem State.pin_image {i : DevIx} {im : Image} (identity : BitVec 24) (p : Path) (h : s.store.inForce = some im)
    (hi : (s.dev i).outstanding = false) :
    (s.composed (.command (.pin i identity p))).roster[i] =
      im.roster[i].map (·.addPin p ((s.routesOf i identity).pin p)) := by
  simp [State.composed, State.commandImage, State.restOf, State.baseImage, h, hi]

/-- The requests of the store after a write has started: the one that started stands before those waiting. -/
theorem State.startWrite_jobs (j : WriteJob) : (s.startWrite j).store.jobs = j :: s.store.waiting := by
  obtain ⟨-, -, hw, -, ha⟩ := s.startWrite_store j
  simp [Store.jobs, hw, ha]

/-- What a write request can do: start the write, or add it to those waiting. -/
theorem State.requestWrite_cases (j : WriteJob) :
    (s.store.active = none ∧ s.store.waiting = [] ∧ s.requestWrite j = s.startWrite j) ∨
      s.requestWrite j = { s with store := { s.store with waiting := joinWaiting s.store.waiting j } } := by
  simp only [State.requestWrite]
  split
  · next h => simp at h; exact .inl ⟨h.1, h.2, rfl⟩
  · exact .inr rfl

/-- What a roster write request can do: nothing for no index, a write request, or the flags of R170 item 1. -/
theorem State.requestRoster_cases (ixs : List DevIx) :
    (ixs = [] ∧ s.requestRoster ixs = s) ∨
      (s.restart = .idle ∧ s.requestRoster ixs = s.requestWrite (.roster ixs)) ∨
        (s.restart ≠ .idle ∧ s.requestRoster ixs = s.markOutstanding ixs true) := by
  simp only [State.requestRoster]
  split
  · next h => exact .inl ⟨by simpa using h, rfl⟩
  · split
    · next h => exact .inr (.inl ⟨h, rfl⟩)
    · next h => exact .inr (.inr ⟨h, rfl⟩)

/-- A record after the store-outstanding flags of a list of indices are set to v. -/
theorem State.markOutstanding_dev (ixs : List DevIx) (v : Bool) (i : DevIx) :
    (s.markOutstanding ixs v).dev i = if i ∈ ixs then { s.dev i with outstanding := v } else s.dev i := by
  simp [State.markOutstanding]

@[simp] theorem State.markOutstanding_phase (ixs : List DevIx) (v : Bool) :
    (s.markOutstanding ixs v).phase = s.phase := by
  simp [State.markOutstanding]
@[simp] theorem State.markOutstanding_restart (ixs : List DevIx) (v : Bool) :
    (s.markOutstanding ixs v).restart = s.restart := by
  simp [State.markOutstanding]
@[simp] theorem State.markOutstanding_time (ixs : List DevIx) (v : Bool) :
    (s.markOutstanding ixs v).time = s.time := by
  simp [State.markOutstanding]
@[simp] theorem State.markOutstanding_runClock (ixs : List DevIx) (v : Bool) :
    (s.markOutstanding ixs v).runClock = s.runClock := by
  simp [State.markOutstanding]
@[simp] theorem State.markOutstanding_siteTime (ixs : List DevIx) (v : Bool) :
    (s.markOutstanding ixs v).siteTime = s.siteTime := by
  simp [State.markOutstanding]
@[simp] theorem State.markOutstanding_key (ixs : List DevIx) (v : Bool) :
    (s.markOutstanding ixs v).key = s.key := by
  simp [State.markOutstanding]
@[simp] theorem State.markOutstanding_zones (ixs : List DevIx) (v : Bool) :
    (s.markOutstanding ixs v).zones = s.zones := by
  simp [State.markOutstanding]
@[simp] theorem State.markOutstanding_siteCount (ixs : List DevIx) (v : Bool) :
    (s.markOutstanding ixs v).siteCount = s.siteCount := by
  simp [State.markOutstanding]
@[simp] theorem State.markOutstanding_cells (ixs : List DevIx) (v : Bool) :
    (s.markOutstanding ixs v).cells = s.cells := by
  simp [State.markOutstanding]
@[simp] theorem State.markOutstanding_site (ixs : List DevIx) (v : Bool) :
    (s.markOutstanding ixs v).site = s.site := by
  simp [State.markOutstanding]
@[simp] theorem State.markOutstanding_events (ixs : List DevIx) (v : Bool) :
    (s.markOutstanding ixs v).events = s.events := by
  simp [State.markOutstanding]
@[simp] theorem State.markOutstanding_nextSeq (ixs : List DevIx) (v : Bool) :
    (s.markOutstanding ixs v).nextSeq = s.nextSeq := by
  simp [State.markOutstanding]
@[simp] theorem State.markOutstanding_portA (ixs : List DevIx) (v : Bool) :
    (s.markOutstanding ixs v).portA = s.portA := by
  simp [State.markOutstanding]
@[simp] theorem State.markOutstanding_portB (ixs : List DevIx) (v : Bool) :
    (s.markOutstanding ixs v).portB = s.portB := by
  simp [State.markOutstanding]
@[simp] theorem State.markOutstanding_portS (ixs : List DevIx) (v : Bool) :
    (s.markOutstanding ixs v).portS = s.portS := by
  simp [State.markOutstanding]
@[simp] theorem State.markOutstanding_panelA (ixs : List DevIx) (v : Bool) :
    (s.markOutstanding ixs v).panelA = s.panelA := by
  simp [State.markOutstanding]
@[simp] theorem State.markOutstanding_panelB (ixs : List DevIx) (v : Bool) :
    (s.markOutstanding ixs v).panelB = s.panelB := by
  simp [State.markOutstanding]
@[simp] theorem State.markOutstanding_store (ixs : List DevIx) (v : Bool) :
    (s.markOutstanding ixs v).store = s.store := by
  simp [State.markOutstanding]
@[simp] theorem State.markOutstanding_pending (ixs : List DevIx) (v : Bool) :
    (s.markOutstanding ixs v).pending = s.pending := by
  simp [State.markOutstanding]

/-! ## Write ends (R152, R168) -/

@[simp] theorem State.endWrite_phase (v : Bool) : (s.endWrite v).phase = s.phase := by
  simp only [State.endWrite]; split <;> (try split) <;> simp
@[simp] theorem State.endWrite_restart (v : Bool) : (s.endWrite v).restart = s.restart := by
  simp only [State.endWrite]; split <;> (try split) <;> simp
@[simp] theorem State.endWrite_time (v : Bool) : (s.endWrite v).time = s.time := by
  simp only [State.endWrite]; split <;> (try split) <;> simp
@[simp] theorem State.endWrite_runClock (v : Bool) : (s.endWrite v).runClock = s.runClock := by
  simp only [State.endWrite]; split <;> (try split) <;> simp
@[simp] theorem State.endWrite_siteTime (v : Bool) : (s.endWrite v).siteTime = s.siteTime := by
  simp only [State.endWrite]; split <;> (try split) <;> simp
@[simp] theorem State.endWrite_key (v : Bool) : (s.endWrite v).key = s.key := by
  simp only [State.endWrite]; split <;> (try split) <;> simp
@[simp] theorem State.endWrite_zones (v : Bool) : (s.endWrite v).zones = s.zones := by
  simp only [State.endWrite]; split <;> (try split) <;> simp
@[simp] theorem State.endWrite_siteCount (v : Bool) : (s.endWrite v).siteCount = s.siteCount := by
  simp only [State.endWrite]; split <;> (try split) <;> simp
@[simp] theorem State.endWrite_cells (v : Bool) : (s.endWrite v).cells = s.cells := by
  simp only [State.endWrite]; split <;> (try split) <;> simp
@[simp] theorem State.endWrite_site (v : Bool) : (s.endWrite v).site = s.site := by
  simp only [State.endWrite]; split <;> (try split) <;> simp
@[simp] theorem State.endWrite_events (v : Bool) : (s.endWrite v).events = s.events := by
  simp only [State.endWrite]; split <;> (try split) <;> simp
@[simp] theorem State.endWrite_nextSeq (v : Bool) : (s.endWrite v).nextSeq = s.nextSeq := by
  simp only [State.endWrite]; split <;> (try split) <;> simp
@[simp] theorem State.endWrite_portA (v : Bool) : (s.endWrite v).portA = s.portA := by
  simp only [State.endWrite]; split <;> (try split) <;> simp
@[simp] theorem State.endWrite_portB (v : Bool) : (s.endWrite v).portB = s.portB := by
  simp only [State.endWrite]; split <;> (try split) <;> simp
@[simp] theorem State.endWrite_portS (v : Bool) : (s.endWrite v).portS = s.portS := by
  simp only [State.endWrite]; split <;> (try split) <;> simp
@[simp] theorem State.endWrite_panelA (v : Bool) : (s.endWrite v).panelA = s.panelA := by
  simp only [State.endWrite]; split <;> (try split) <;> simp
@[simp] theorem State.endWrite_panelB (v : Bool) : (s.endWrite v).panelB = s.panelB := by
  simp only [State.endWrite]; split <;> (try split) <;> simp
@[simp] theorem State.endWrite_pending (v : Bool) : (s.endWrite v).pending = s.pending := by
  simp only [State.endWrite]; split <;> (try split) <;> simp

/-- A write end changes nothing of a record but its store-outstanding flag. -/
theorem State.endWrite_dev (v : Bool) (i : DevIx) :
    ∃ on, (s.endWrite v).dev i = { s.dev i with outstanding := on } := by
  simp only [State.endWrite]
  split
  · exact ⟨_, rfl⟩
  · split
    · rw [State.markOutstanding_dev]
      split
      · exact ⟨_, rfl⟩
      · exact ⟨_, rfl⟩
    · exact ⟨_, rfl⟩

/-- The end of the command that Link S executes, when it can hold the response (R152). -/
theorem State.finishCommand_of_answers {c : Command} {tag : Byte} (r : Result)
    (he : s.portS.executing = some (c, tag)) (hn : s.answers .S) :
    s.finishCommand { result := r } = s.completes tag r := by
  simp only [State.answers, State.port] at hn
  simp [State.finishCommand, he, State.answer, State.port, State.setPort, State.completes, hn]

end Sys2Proof.Machine
end

