-- ==== Sys2Proof/Laws/PerInstr.lean ====
section
/-! SUPPORT. The statements made of every command, one lemma per constructor: the frame of a well-formed command fits a
command frame, and only an unknown frame and a frame to a busy link may carry a code outside the code table
(R149, R155, R175). -/

namespace Sys2Proof.Laws

open Sys2Proof.Machine

/-- What KnownCode says of a command: when it is well formed and arrives as a frame, the frame carries at most 57
operand bytes, and its code is one of the code table unless the command is UNKNOWN_COMMAND_FRAME or BUSY_FRAME. -/
def KnownCode.Statement (i : Instr) : Prop :=
  i.wf = true → ∀ h code ops, i.frame = some (h, code, ops) →
    ops.length ≤ 57 ∧ ((Command.ofCode code).isSome ∨ i = .unknownCommandFrame h code ops ∨ i = .busyFrame h code ops)

/-- The code of a command is found in the code table (R175). -/
theorem ofCode_code (c : Command) : (Command.ofCode c.code).isSome = true := by
  cases c <;> decide

/-- A command that does not arrive as a frame. -/
theorem KnownCode.of_none {i : Instr} (hf : i.frame = none) : KnownCode.Statement i := by
  intro _ h code ops he
  simp [hf] at he

/-- A command of the code table. -/
theorem KnownCode.of_command {i : Instr} {h : FrameHead} {c : Command} {ops : List Byte}
    (hf : i.frame = some (h, c.code, ops)) (hw : i.wf = opsFit ops) : KnownCode.Statement i := by
  intro ho h' code ops' he
  rw [hf] at he
  cases he
  rw [hw] at ho
  exact ⟨of_decide_eq_true ho, .inl (ofCode_code c)⟩

theorem KnownCode.readStatus (h : FrameHead) (ops : List Byte) : KnownCode.Statement (.readStatus h ops) :=
  KnownCode.of_command (c := .readStatus) rfl rfl
theorem KnownCode.readDevice (h : FrameHead) (ops : List Byte) : KnownCode.Statement (.readDevice h ops) :=
  KnownCode.of_command (c := .readDevice) rfl rfl
theorem KnownCode.readZone (h : FrameHead) (ops : List Byte) : KnownCode.Statement (.readZone h ops) :=
  KnownCode.of_command (c := .readZone) rfl rfl
theorem KnownCode.readCell (h : FrameHead) (ops : List Byte) : KnownCode.Statement (.readCell h ops) :=
  KnownCode.of_command (c := .readCell) rfl rfl
theorem KnownCode.readRoute (h : FrameHead) (ops : List Byte) : KnownCode.Statement (.readRoute h ops) :=
  KnownCode.of_command (c := .readRoute) rfl rfl
theorem KnownCode.readIdentity (h : FrameHead) (ops : List Byte) : KnownCode.Statement (.readIdentity h ops) :=
  KnownCode.of_command (c := .readIdentity) rfl rfl
theorem KnownCode.attach (h : FrameHead) (ops : List Byte) : KnownCode.Statement (.attach h ops) :=
  KnownCode.of_command (c := .attach) rfl rfl
theorem KnownCode.detach (h : FrameHead) (ops : List Byte) : KnownCode.Statement (.detach h ops) :=
  KnownCode.of_command (c := .detach) rfl rfl
theorem KnownCode.fetchEvent (h : FrameHead) (ops : List Byte) : KnownCode.Statement (.fetchEvent h ops) :=
  KnownCode.of_command (c := .fetchEvent) rfl rfl
theorem KnownCode.acknowledgeZone (h : FrameHead) (ops : List Byte) : KnownCode.Statement (.acknowledgeZone h ops) :=
  KnownCode.of_command (c := .acknowledgeZone) rfl rfl
theorem KnownCode.resetZone (h : FrameHead) (ops : List Byte) : KnownCode.Statement (.resetZone h ops) :=
  KnownCode.of_command (c := .resetZone) rfl rfl
theorem KnownCode.acknowledgeAll (h : FrameHead) (ops : List Byte) : KnownCode.Statement (.acknowledgeAll h ops) :=
  KnownCode.of_command (c := .acknowledgeAll) rfl rfl
theorem KnownCode.resetAll (h : FrameHead) (ops : List Byte) : KnownCode.Statement (.resetAll h ops) :=
  KnownCode.of_command (c := .resetAll) rfl rfl
theorem KnownCode.disableDevice (h : FrameHead) (ops : List Byte) : KnownCode.Statement (.disableDevice h ops) :=
  KnownCode.of_command (c := .disableDevice) rfl rfl
theorem KnownCode.enableDevice (h : FrameHead) (ops : List Byte) : KnownCode.Statement (.enableDevice h ops) :=
  KnownCode.of_command (c := .enableDevice) rfl rfl
theorem KnownCode.disableZone (h : FrameHead) (ops : List Byte) : KnownCode.Statement (.disableZone h ops) :=
  KnownCode.of_command (c := .disableZone) rfl rfl
theorem KnownCode.enableZone (h : FrameHead) (ops : List Byte) : KnownCode.Statement (.enableZone h ops) :=
  KnownCode.of_command (c := .enableZone) rfl rfl
theorem KnownCode.startTest (h : FrameHead) (ops : List Byte) : KnownCode.Statement (.startTest h ops) :=
  KnownCode.of_command (c := .startTest) rfl rfl
theorem KnownCode.endTest (h : FrameHead) (ops : List Byte) : KnownCode.Statement (.endTest h ops) :=
  KnownCode.of_command (c := .endTest) rfl rfl
theorem KnownCode.selectProfile (h : FrameHead) (ops : List Byte) : KnownCode.Statement (.selectProfile h ops) :=
  KnownCode.of_command (c := .selectProfile) rfl rfl
theorem KnownCode.setTime (h : FrameHead) (ops : List Byte) : KnownCode.Statement (.setTime h ops) :=
  KnownCode.of_command (c := .setTime) rfl rfl
theorem KnownCode.clearCellStatistics (h : FrameHead) (ops : List Byte) : KnownCode.Statement (.clearCellStatistics h ops) :=
  KnownCode.of_command (c := .clearCellStatistics) rfl rfl
theorem KnownCode.enrolDevice (h : FrameHead) (ops : List Byte) : KnownCode.Statement (.enrolDevice h ops) :=
  KnownCode.of_command (c := .enrolDevice) rfl rfl
theorem KnownCode.enrolDeviceWriteEnd (verified : Bool) : KnownCode.Statement (.enrolDeviceWriteEnd verified) :=
  KnownCode.of_none rfl
theorem KnownCode.removeDevice (h : FrameHead) (ops : List Byte) : KnownCode.Statement (.removeDevice h ops) :=
  KnownCode.of_command (c := .removeDevice) rfl rfl
theorem KnownCode.removeDeviceWriteEnd (verified : Bool) : KnownCode.Statement (.removeDeviceWriteEnd verified) :=
  KnownCode.of_none rfl
theorem KnownCode.moveDevice (h : FrameHead) (ops : List Byte) : KnownCode.Statement (.moveDevice h ops) :=
  KnownCode.of_command (c := .moveDevice) rfl rfl
theorem KnownCode.cancelMove (h : FrameHead) (ops : List Byte) : KnownCode.Statement (.cancelMove h ops) :=
  KnownCode.of_command (c := .cancelMove) rfl rfl
theorem KnownCode.pinRoute (h : FrameHead) (ops : List Byte) : KnownCode.Statement (.pinRoute h ops) :=
  KnownCode.of_command (c := .pinRoute) rfl rfl
theorem KnownCode.pinRouteWriteEnd (verified : Bool) : KnownCode.Statement (.pinRouteWriteEnd verified) :=
  KnownCode.of_none rfl
theorem KnownCode.unpinRoute (h : FrameHead) (ops : List Byte) : KnownCode.Statement (.unpinRoute h ops) :=
  KnownCode.of_command (c := .unpinRoute) rfl rfl
theorem KnownCode.unpinRouteWriteEnd (verified : Bool) : KnownCode.Statement (.unpinRouteWriteEnd verified) :=
  KnownCode.of_none rfl
theorem KnownCode.setZoneParameters (h : FrameHead) (ops : List Byte) : KnownCode.Statement (.setZoneParameters h ops) :=
  KnownCode.of_command (c := .setZoneParameters) rfl rfl
theorem KnownCode.setZoneParametersWriteEnd (verified : Bool) : KnownCode.Statement (.setZoneParametersWriteEnd verified) :=
  KnownCode.of_none rfl
theorem KnownCode.setSiteParameters (h : FrameHead) (ops : List Byte) : KnownCode.Statement (.setSiteParameters h ops) :=
  KnownCode.of_command (c := .setSiteParameters) rfl rfl
theorem KnownCode.setSiteParametersWriteEnd (verified : Bool) : KnownCode.Statement (.setSiteParametersWriteEnd verified) :=
  KnownCode.of_none rfl
theorem KnownCode.setCellChannel (h : FrameHead) (ops : List Byte) : KnownCode.Statement (.setCellChannel h ops) :=
  KnownCode.of_command (c := .setCellChannel) rfl rfl
theorem KnownCode.setCellChannelWriteEnd (verified : Bool) : KnownCode.Statement (.setCellChannelWriteEnd verified) :=
  KnownCode.of_none rfl
theorem KnownCode.stopCell (h : FrameHead) (ops : List Byte) : KnownCode.Statement (.stopCell h ops) :=
  KnownCode.of_command (c := .stopCell) rfl rfl
theorem KnownCode.startCell (h : FrameHead) (ops : List Byte) : KnownCode.Statement (.startCell h ops) :=
  KnownCode.of_command (c := .startCell) rfl rfl
theorem KnownCode.clearDisablements (h : FrameHead) (ops : List Byte) : KnownCode.Statement (.clearDisablements h ops) :=
  KnownCode.of_command (c := .clearDisablements) rfl rfl
theorem KnownCode.restart (h : FrameHead) (ops : List Byte) : KnownCode.Statement (.restart h ops) :=
  KnownCode.of_command (c := .restart) rfl rfl
theorem KnownCode.unknownCommandFrame (h : FrameHead) (code : Byte) (ops : List Byte) : KnownCode.Statement (.unknownCommandFrame h code ops) :=
  fun ho _ _ _ he => by
    cases he
    rw [Instr.wf, Bool.and_eq_true] at ho
    exact ⟨of_decide_eq_true ho.1, .inr (.inl rfl)⟩
theorem KnownCode.busyFrame (h : FrameHead) (code : Byte) (ops : List Byte) : KnownCode.Statement (.busyFrame h code ops) :=
  fun ho _ _ _ he => by
    cases he
    exact ⟨of_decide_eq_true ho, .inr (.inr rfl)⟩
theorem KnownCode.frameCrcDiscard (l : Link) : KnownCode.Statement (.frameCrcDiscard l) :=
  KnownCode.of_none rfl
theorem KnownCode.frameGapTimeout (l : Link) : KnownCode.Statement (.frameGapTimeout l) :=
  KnownCode.of_none rfl
theorem KnownCode.linkSilence (p : Panel) : KnownCode.Statement (.linkSilence p) :=
  KnownCode.of_none rfl
theorem KnownCode.receivedCopy (c : CellIx) (x : Copy) : KnownCode.Statement (.receivedCopy c x) :=
  KnownCode.of_none rfl
theorem KnownCode.downlinkAssembly (c : CellIx) : KnownCode.Statement (.downlinkAssembly c) :=
  KnownCode.of_none rfl
theorem KnownCode.transmitConfirm (c : CellIx) (t : TxName) : KnownCode.Statement (.transmitConfirm c t) :=
  KnownCode.of_none rfl
theorem KnownCode.intervalEnd : KnownCode.Statement (.intervalEnd) :=
  KnownCode.of_none rfl
theorem KnownCode.superframeBoundary : KnownCode.Statement (.superframeBoundary) :=
  KnownCode.of_none rfl
theorem KnownCode.cycleBoundary : KnownCode.Statement (.cycleBoundary) :=
  KnownCode.of_none rfl
theorem KnownCode.enrolmentDeadline (i : DevIx) : KnownCode.Statement (.enrolmentDeadline i) :=
  KnownCode.of_none rfl
theorem KnownCode.corroborationLapse (z : ZoneIx) : KnownCode.Statement (.corroborationLapse z) :=
  KnownCode.of_none rfl
theorem KnownCode.profileExpiry (z : ZoneIx) : KnownCode.Statement (.profileExpiry z) :=
  KnownCode.of_none rfl
theorem KnownCode.testExpiry (z : ZoneIx) : KnownCode.Statement (.testExpiry z) :=
  KnownCode.of_none rfl
theorem KnownCode.storeWriteStart : KnownCode.Statement (.storeWriteStart) :=
  KnownCode.of_none rfl
theorem KnownCode.rosterWriteEnd (verified : Bool) : KnownCode.Statement (.rosterWriteEnd verified) :=
  KnownCode.of_none rfl
theorem KnownCode.powerLossOrReset : KnownCode.Statement (.powerLossOrReset) :=
  KnownCode.of_none rfl
theorem KnownCode.startUp : KnownCode.Statement (.startUp) :=
  KnownCode.of_none rfl
theorem KnownCode.restartStartUp : KnownCode.Statement (.restartStartUp) :=
  KnownCode.of_none rfl
theorem KnownCode.probeAnswer (c : CellIx) : KnownCode.Statement (.probeAnswer c) :=
  KnownCode.of_none rfl
theorem KnownCode.probeTimeout (key : Bool) : KnownCode.Statement (.probeTimeout key) :=
  KnownCode.of_none rfl
theorem KnownCode.frameByteReceived (l : Link) (key : Bool) (b : Byte) : KnownCode.Statement (.frameByteReceived l key b) :=
  KnownCode.of_none rfl
theorem KnownCode.responseWhollySent (l : Link) : KnownCode.Statement (.responseWhollySent l) :=
  KnownCode.of_none rfl

end Sys2Proof.Laws
end

