-- ==== Sys2Proof/Tests/Slice0.lean ====
section
/-! SUPPORT. The tests: what WellFormed refuses, values worked out by hand from the manual, and for every statement of
Certificates/Slice0/Obligations.lean a state and operands that meet its hypotheses, clause by clause. -/

namespace Sys2Proof.Tests

open Sys2Proof Sys2Proof.Machine

set_option Elab.async false

/-! ## Small states -/

/-- A frame head of Link A at level 2, and of Link S at level 3 with the service key asserted. -/
def hA : FrameHead := { link := .A, key := false, tag := 7, level := 2 }
def hS : FrameHead := { link := .S, key := true, tag := 9, level := 3 }

/-- A Supervised smoke device with a baseline of 20 units, in zone 1. -/
def smoke : Device :=
  { life := .supervised, identity := 0x10, kind := .smoke, zone := 1, granted := true, lastSeq := some 4
    smoke := { baseline := some 320, calCount := 8, calSum := 160 } }

/-- A latched Supervised call point in zone 1. -/
def point : Device :=
  { life := .supervised, identity := 0x11, kind := .callPoint, zone := 1, granted := true, cond := .fireLatched }

/-- A Supervised Repeater of relay number 3. -/
def relay : Device := { life := .supervised, identity := 0x12, kind := .repeater, relay := 3, granted := true }

/-- An Enrolling heat device whose deadline is at 100. -/
def fresh : Device := { life := .enrolling, identity := 0x13, kind := .heat, zone := 2, deadline := some 100 }

/-- A running part: four Running cells, Link A attached, the four devices at indices 0 to 3, and zone 1 in Fire. -/
def site : State :=
  { (((((({ State.reset with
          phase := .running
          runClock := 100
          time := { interval := 1 } }.setDev 0 smoke).setDev 1 point).setDev 2 relay).setDev 3 fresh).setZone 1
      { cond := .fire, generation := 5 })) with
    cells := Vector.ofFn fun c => { state := .running, channel := (defaultChannels)[c] }
    panelA := { attached := true, lastFrame := 90, credits := { fault := 1, warning := 0, status := 1 } } }

/-- An image, and the part with a write of a command or of the roster in progress, Link S executing under tag 9. -/
def image : Image :=
  { roster := Vector.replicate 192 none, zones := Vector.replicate 32 {}, channels := defaultChannels, site := {},
    number := 4 }
def writingOf (j : WriteJob) (c : Command) : State :=
  { site with
    portS := { executing := some (c, 9) }
    store := { bank0 := image.sealed, bank1 := .spoiled, current := some .zero, invalid := false,
               active := some { job := j, image := image, replaced := [3] } } }

/-- An event of a body pending for Link A alone. -/
def pendingA (b : EventBody) : Event := { seq := 0, siteTime := 0, body := b, pending := { a := true } }

/-- The state after a command. -/
def after (c : Instr) (s : State) : State :=
  match exec c s with
  | .next t => t
  | .fault _ => s
  | .refused _ => s

/-- The state after a step. -/
def stepped (s : State) : State :=
  match step s with
  | .next t => t
  | .fault _ => s
  | .refused _ => s

/-- The last response held on a link: result and value. -/
def said (l : Link) (s : State) : Option (Result × Nat) :=
  ((s.port l).responses.getLast?).map fun r => (r.reply.result, r.reply.value)

/-! ## WellFormed -/

theorem test_wf_too_many_operands : (Instr.readStatus hA (List.replicate 58 0)).wf = false := by decide
theorem test_wf_most_operands : (Instr.readStatus hA (List.replicate 57 0)).wf = true := by decide
theorem test_wf_busy_too_many_operands : (Instr.busyFrame hA 1 (List.replicate 58 0)).wf = false := by decide
theorem test_wf_known_code_is_not_unknown : (Instr.unknownCommandFrame hA 0x3C []).wf = false := by decide
theorem test_wf_unknown_code : (Instr.unknownCommandFrame hA 0x3D []).wf = true := by decide
theorem test_wf_unknown_too_many_operands : (Instr.unknownCommandFrame hA 0x3D (List.replicate 58 0)).wf = false := by
  decide
theorem test_wf_beacon_tick :
    (Instr.transmitConfirm 0 { interval := 0, tick := 5898, phase := 0, cycle := 0 }).wf = false := by decide
theorem test_wf_downlink_tick :
    (Instr.transmitConfirm 0 { interval := 1, tick := 655, phase := 0, cycle := 0 }).wf = false := by decide

/-- No row of the table gives bits. -/
theorem test_decode_none : decodeTableWord 8 0x3C = none := rfl

/-! ## The step, reset and the link checks -/

theorem test_step_takes_front :
    (stepped { State.reset with pending := [.startUp, .probeTimeout true] }).phase = .probing (Vector.replicate 4 false) ∧
      (stepped { State.reset with pending := [.startUp, .probeTimeout true] }).pending = [.probeTimeout true] := by
  decide +kernel

theorem test_fetch_word_of_no_bits : State.reset.withFetchWord 8 0x3C = State.reset := rfl

theorem witness_AnythingButDoneChangesNothing :
    site.phase = .running ∧ site.restart = .idle ∧ (site.port hA.link).executing = none ∧
      (site.port hA.link).responses.length < 4 ∧
      (after (.acknowledgeZone hA [1, 0, 4]) site).portA.responses =
        site.portA.responses ++ [{ tag := 7, reply := { result := .stale, value := 5 } }] := by decide +kernel

theorem witness_LinkChecksInOrder :
    said .A (after (.readDevice hA []) site) = some (.badFrame, 0) ∧
      said .A (after (.readDevice { hA with level := 3 } [0]) site) = some (.levelNotGranted, 0) ∧
      said .A (after (.readDevice { hA with level := 0 } [0]) site) = some (.levelTooLow, 0) ∧
      said .A (after (.unknownCommandFrame hA 0x3D []) site) = some (.unknownCommand, 0) ∧
      (Command.ofCode 0x3D = none) := by decide +kernel

theorem witness_unknown_code : ∀ c : Command, c.code ≠ 0x3D := by
  intro c
  cases c <;> decide

theorem witness_BusyFramesAnsweredUnchecked :
    site.takes hS .restart ∧ said .S (after (.restart hS []) site) = some (.done, 0) ∧
      (after (.restart hS []) site).restart ≠ .idle ∧
      said .A (after (.busyFrame hA 0x12 []) (after (.restart hS []) site)) = some (.busy, 0x3C) ∧
      said .S (after (.busyFrame hS 0x3D [1]) (writingOf (.roster []) .pinRoute)) = some (.busy, 0x34) ∧
      panelOf hA.link = some .A := by
  unfold State.takes
  decide +kernel

/-! ## Queries -/

theorem witness_QueriesAnswerWithoutChange :
    site.takes hA .readStatus ∧ site.takes hA .readIdentity ∧ site.takes hA .readDevice ∧ site.takes hA .readZone ∧
      site.takes hA .readCell ∧ site.takes hA .readRoute := by
  unfold State.takes
  decide +kernel

theorem test_query_bounds :
    said .A (after (.readDevice hA [191]) site) = some (.done, 0) ∧
      said .A (after (.readDevice hA [192]) site) = some (.badTarget, 192) ∧
      said .A (after (.readZone hA [1]) site) = some (.done, 5) ∧
      said .A (after (.readZone hA [32]) site) = some (.badTarget, 32) ∧
      said .A (after (.readCell hA [4]) site) = some (.badTarget, 4) ∧
      said .A (after (.readRoute hA [192]) site) = some (.badTarget, 192) := by decide +kernel

/-! ## Attachment, events and delivery -/

/-- The part with Link A detached. -/
def detached : State := { site with panelA := {} }

theorem witness_AttachmentDecided :
    detached.takes hA .attach ∧ panelOf hA.link = some .A ∧ (detached.panel .A).attached = false ∧
      site.takes hA .attach ∧ (site.panel .A).attached = true ∧ site.takes hS .attach ∧ site.takes hA .detach ∧
      detached.takes hA .detach ∧ site.takes hS .detach ∧ site.phase = .running := by
  unfold State.takes
  decide +kernel

theorem test_attach_and_detach :
    said .A (after (.attach hA []) detached) = some (.done, 0) ∧
      (after (.attach hA []) detached).panelA.credits = { fault := 4, warning := 2, status := 1 } ∧
      said .S (after (.attach hS []) site) = some (.wrongState, 0) ∧
      (after (.detach hA []) site).panelA.attached = false := by decide +kernel

/-- Link silence at 79 and at 80 quarters after the last frame (R146). -/
theorem test_link_silence :
    (after (.linkSilence .A) { site with runClock := 169 }).panelA.attached = true ∧
      (after (.linkSilence .A) { site with runClock := 170 }).panelA.attached = false := by decide +kernel

/-- The part with a Status event and then a Fire event pending for Link A, and with a Fault and a Warning event. -/
def fireLast : State := { site with events := [pendingA (.deviceRemoved 5), pendingA (.deviceFire 1 1 5 1 0)] }
def faultWarning : State := { site with events := [pendingA (.preAlarm 0 12), pendingA (.deviceFault 0 .lowBattery)] }
/-- The part with a Warning event alone, whose class has no credit. -/
def warningOnly : State := { site with events := [pendingA (.preAlarm 0 12)] }

theorem witness_FetchDeliversOldestFireFirst :
    fireLast.takes hA .fetchEvent ∧ panelOf hA.link = some .A ∧ (fireLast.panel .A).attached = true ∧
      fireLast.events = [pendingA (.deviceRemoved 5)] ++ pendingA (.deviceFire 1 1 5 1 0) :: [] ∧
      (pendingA (.deviceFire 1 1 5 1 0)).body.cls = .fire ∧
      (∀ x ∈ [pendingA (.deviceRemoved 5)], x.pending.has .A = true → x.body.cls ≠ .fire) ∧
      site.takes hS .fetchEvent ∧ detached.takes hA .fetchEvent ∧ (detached.panel .A).attached = false ∧
      site.takes hA .fetchEvent ∧ (∀ e ∈ site.events, e.pending.has .A = false) := by
  unfold State.takes
  decide +kernel

theorem test_fetch_fire_before_older_status :
    said .A (after (.fetchEvent hA []) fireLast) = some (.done, 1) ∧
      (after (.fetchEvent hA []) fireLast).events = [pendingA (.deviceRemoved 5)] ∧
      (after (.fetchEvent hA []) fireLast).panelA.credits = fireLast.panelA.credits := by decide +kernel

theorem witness_FetchChoosesByCredit :
    faultWarning.takes hA .fetchEvent ∧ (faultWarning.panel .A).attached = true ∧
      (∀ x ∈ faultWarning.events, x.pending.has .A = true → x.body.cls ≠ .fire) ∧
      (∀ x ∈ [pendingA (.preAlarm 0 12)], x.pending.has .A = true → x.body.cls ≠ .fault) ∧
      1 ≤ faultWarning.site.wFault ∧ 1 ≤ faultWarning.site.wWarning ∧ 1 ≤ faultWarning.site.wStatus ∧
      0 < faultWarning.panelA.credits.of .fault ∧ warningOnly.takes hA .fetchEvent ∧
      warningOnly.panelA.credits.of .warning = 0 := by
  unfold State.takes
  decide +kernel

/-- The older Warning event waits for the Fault event, and a reload loads 4, 2, 1 and spends one (R141). -/
theorem test_fetch_by_credit :
    (after (.fetchEvent hA []) faultWarning).events = [pendingA (.preAlarm 0 12)] ∧
      (after (.fetchEvent hA []) warningOnly).panelA.credits = { fault := 4, warning := 1, status := 1 } := by
  decide +kernel

/-- The part with 256 events, all Fire or all Status, stored. -/
def full (b : EventBody) : State := { site with events := List.replicate 256 (pendingA b) }

theorem witness_EventsCreatedAndOverflow :
    site.events.length < 256 ∧ 256 ≤ (full (.deviceRemoved 5)).events.length ∧
      (full (.deviceRemoved 5)).panelA.attached = true ∧
      (full (.deviceRemoved 5)).events =
        [] ++ pendingA (.deviceRemoved 5) :: List.replicate 255 (pendingA (.deviceRemoved 5)) ∧
      (∀ x ∈ (full (.deviceFire 1 1 5 1 0)).events, x.body.cls = .fire) := by
  refine ⟨by decide +kernel, by decide +kernel, by decide +kernel, rfl, ?_⟩
  intro x hx
  rw [(List.mem_replicate.mp hx).2]
  rfl

theorem test_overflow_raises_flag :
    ((full (.deviceRemoved 5)).create (.preAlarm 0 12)).events.length = 256 ∧
      ((full (.deviceRemoved 5)).create (.preAlarm 0 12)).panelA.lost = { status := true } ∧
      ((full (.deviceFire 1 1 5 1 0)).create (.preAlarm 0 12)).panelA.lost = { warning := true } := by
  decide +kernel

/-! ## Operator actions -/

theorem witness_OperatorChecksBeforeTheirOwn :
    detached.takes hA .disableZone ∧ detached.takes hA .disableDevice ∧ detached.takes hA .setTime ∧
      detached.mayOperate .A = false ∧ (31 : Byte).toNat < 32 ∧ 32 ≤ (32 : Byte).toNat ∧ 192 ≤ (192 : Byte).toNat ∧
      (detached.dev 191).life = .vacant ∧ (detached.dev 1).life ≠ .vacant ∧
      said .A (after (.disableZone hA [32]) detached) = some (.badTarget, 32) ∧
      said .A (after (.disableZone hA [31]) detached) = some (.notAttached, 0) ∧
      said .A (after (.disableDevice hA [192]) detached) = some (.badTarget, 192) ∧
      said .A (after (.disableDevice hA [191]) detached) = some (.vacantTarget, 0) ∧
      said .A (after (.disableDevice hA [1]) detached) = some (.notAttached, 0) := by
  unfold State.takes
  decide +kernel

theorem witness_AcknowledgeAndResetZoneDecided :
    site.takes hA .acknowledgeZone ∧ site.takes hA .resetZone ∧ site.mayOperate .A = true ∧
      (1 : Byte).toNat = (1 : ZoneIx).val := by
  unfold State.takes
  decide +kernel

/-- The part with zone 1 acknowledged. -/
def acknowledged : State := after (.acknowledgeZone hA [1, 0, 5]) site

theorem test_acknowledge_then_reset :
    said .A acknowledged = some (.done, 5) ∧
      said .A (after (.acknowledgeZone hA [1, 0, 5]) acknowledged) = some (.noChange, 5) ∧
      said .A (after (.resetZone hA [1, 0, 5]) site) = some (.notAcknowledged, 5) ∧
      said .A (after (.resetZone hA [2, 0, 0]) site) = some (.notInAlarm, 0) ∧
      said .A (after (.resetZone hA [1, 0, 5]) acknowledged) = some (.done, 5) ∧
      ((after (.resetZone hA [1, 0, 5]) acknowledged).zone 1).cond = .quiet ∧
      ((after (.resetZone hA [1, 0, 5]) acknowledged).dev 1).cond = .quiet := by decide +kernel

theorem witness_SiteWideActionsDecided :
    site.mayOperate .A = true ∧ site.takes hA .acknowledgeAll ∧ site.takes hA .resetAll := by
  unfold State.takes
  decide +kernel

theorem test_site_wide :
    said .A (after (.acknowledgeAll hA [0, 1]) site) = some (.stale, 0) ∧
      said .A (after (.acknowledgeAll hA [0, 0]) site) = some (.done, 1) ∧
      said .A (after (.resetAll hA [0, 0]) site) = some (.notAcknowledged, 1) ∧
      said .A (after (.resetAll hA [0, 0]) acknowledged) = some (.done, 1) := by decide +kernel

theorem witness_DeviceDisablementDecided :
    site.takes hA .disableDevice ∧ site.takes hA .enableDevice ∧ site.mayOperate .A = true ∧
      (1 : Byte).toNat = (1 : DevIx).val ∧ (site.dev 1).life ≠ .vacant := by
  unfold State.takes
  decide +kernel

/-- A kept latch with a last reading of each sort: a fault code, 38 and 254 for Smoke, Heat and Call Point (R102). -/
theorem witness_kept_latches :
    standingLevel { smoke with lastReading := some (251, 9) } {} = 0 ∧
      standingLevel { smoke with lastReading := some (38, 9) } {} = 18 ∧
      standingLevel { smoke with smoke := {}, lastReading := some (254, 9) } {} = 230 ∧
      standingLevel { kind := .heat, lastReading := some (254, 9) } {} = 250 ∧
      standingLevel { point with lastReading := some (0, 9) } {} = 1 ∧
      keptElapsed { smoke with verif := { count := 2, first := some 880, last := some 1000 } } = 120 ∧
      keptElapsed point = 0 := by decide

/-- The disabled call point leaves its zone Quiet, and enabling it begins a counted latch (R96, R102). -/
theorem test_device_disablement :
    said .A (after (.disableDevice hA [1]) site) = some (.done, 1) ∧
      ((after (.disableDevice hA [1]) site).zone 1).cond = .quiet ∧
      said .A (after (.disableDevice hA [2]) site) = some (.wrongState, 0) ∧
      said .A (after (.enableDevice hA [1]) site) = some (.noChange, 0) ∧
      ((after (.enableDevice hA [1]) (after (.disableDevice hA [1]) site)).zone 1).generation = 6 ∧
      ((after (.enableDevice hA [1]) (after (.disableDevice hA [1]) site)).zone 1).cond = .fire := by decide +kernel

theorem witness_ZoneDisablementDecided :
    site.takes hA .disableZone ∧ site.takes hA .enableZone ∧ site.mayOperate .A = true ∧
      (31 : Byte).toNat = (31 : ZoneIx).val ∧ site.takes hS .clearDisablements := by
  unfold State.takes
  decide +kernel

theorem test_zone_disablement :
    ((after (.disableZone hA [1]) site).zone 1).cond = .quiet ∧
      ((after (.enableZone hA [1]) (after (.disableZone hA [1]) site)).zone 1).generation = 6 := by decide +kernel

/-- The part with zone 1 disabled by Link A, its record set directly. -/
def zoneOff : State := site.setZone 1 { generation := 5, disabled := { a := true } }

theorem test_clear_disablements :
    said .S (after (.clearDisablements hS []) zoneOff) = some (.done, 1) := by decide +kernel

theorem witness_TestsStartAndEnd :
    site.takes hA .startTest ∧ site.takes hA .endTest ∧ site.mayOperate .A = true ∧ site.phase = .running ∧
      (31 : Byte).toNat = (31 : ZoneIx).val := by
  unfold State.takes
  decide +kernel

/-- The part with zone 1 under test until 2500. -/
def underTest : State := site.setZone 1 { generation := 5, test := some { owner := .A, expiry := 2500 } }

/-- A test of 5 minutes is clamped to 10 and expires 2400 quarters on (R126, R111). -/
theorem test_zone_test :
    said .A (after (.startTest hA [1, 5]) site) = some (.done, 10) ∧
      ((after (.startTest hA [1, 5]) site).zone 1).test = some { owner := .A, expiry := 2500 } ∧
      ((after (.startTest hA [1, 5]) site).dev 1).cond = .quiet ∧
      said .A (after (.endTest hA [1]) site) = some (.noChange, 0) ∧
      ((after (.endTest hA [1]) underTest).zone 1).test = none := by decide +kernel

theorem test_zone_test_expiry :
    ((after (.testExpiry 1) { underTest with runClock := 2499 }).zone 1).test ≠ none ∧
      ((after (.testExpiry 1) { underTest with runClock := 2500 }).zone 1).test = none := by
  decide +kernel

theorem witness_ProfileTimeAndStatistics :
    site.takes hA .selectProfile ∧ site.takes hA .setTime ∧ site.takes hA .clearCellStatistics ∧
      site.mayOperate .A = true ∧ site.phase = .running ∧ 4 ≤ (4 : Byte).toNat ∧
      (3 : Byte).toNat = (3 : CellIx).val ∧ (31 : Byte).toNat = (31 : ZoneIx).val := by
  unfold State.takes
  decide +kernel

theorem test_profile :
    said .A (after (.selectProfile hA [1, 1, 255]) site) = some (.done, 240) ∧
      said .A (after (.selectProfile hA [1, 2, 20]) site) = some (.badValue, 0) ∧
      ((after (.profileExpiry 1) (after (.selectProfile hA [1, 1, 0]) site)).zone 1).profile = .service ∧
      ((after (.profileExpiry 1)
        { after (.selectProfile hA [1, 1, 0]) site with runClock := 3700 }).zone 1).profile = .normal := by
  decide +kernel

theorem test_set_time_and_statistics :
    (after (.setTime hA [0x01, 0x02, 0x03, 0x04]) site).siteTime = 0x01020304 ∧
      said .A (after (.clearCellStatistics hA [3]) site) = some (.noChange, 0) ∧
      said .A (after (.clearCellStatistics hA [4]) site) = some (.badTarget, 4) := by decide +kernel

/-! ## Commissioning -/

/-- The part with cell 3 Absent. -/
def threeCells : State := site.modCell 3 fun r => { r with state := .absent }

/-- The job of the write in progress, without its image. -/
def active (s : State) : Option WriteJob := s.store.active.map fun w => w.job

theorem witness_EnrolAndRemoveDecided :
    site.takes hS .enrolDevice ∧ 192 ≤ (192 : Byte).toNat ∧ (191 : Byte).toNat = (191 : DevIx).val ∧
      (threeCells.cell (homeCell 191)).state = .absent ∧ (site.cell (homeCell 191)).state ≠ .absent ∧
      site.isFree 0 = false ∧ site.isFree 191 = true ∧ (site.dev 0).life ≠ .vacant ∧ (site.dev 0).identity = 0x10 ∧
      site.takes hS .removeDevice ∧ (site.dev 191).life = .vacant := by
  unfold State.takes
  decide +kernel

theorem test_enrol_device :
    said .S (after (.enrolDevice hS [192, 0, 0, 0x20, 1, 1]) site) = some (.badTarget, 192) ∧
      said .S (after (.enrolDevice hS [191, 0, 0, 0x20, 1, 1]) threeCells) = some (.cellAbsent, 0) ∧
      said .S (after (.enrolDevice hS [0, 0, 0, 0x20, 1, 1]) site) = some (.slotTaken, 0) ∧
      said .S (after (.enrolDevice hS [191, 0, 0, 0x10, 1, 1]) site) = some (.duplicateIdentity, 0) ∧
      said .S (after (.enrolDevice hS [191, 0, 0, 0x20, 4, 3]) site) = some (.badValue, 0) ∧
      said .S (after (.enrolDevice hS [191, 0, 0, 0x20, 1, 32]) site) = some (.badValue, 0) ∧
      said .S (after (.enrolDevice hS [191, 0, 0, 0x20, 4, 15]) site) = none ∧
      active (after (.enrolDevice hS [191, 0, 0, 0x20, 4, 15]) site) =
        some (.command (.enrol 191
          { identity := 0x20, kind := .repeater, zone := 0, relay := 15, granted := false })) := by decide +kernel

theorem test_remove_device :
    said .S (after (.removeDevice hS [191]) site) = some (.vacantTarget, 0) ∧
      active (after (.removeDevice hS [2]) site) = some (.command (.remove 2 0x12 (some 3))) := by decide +kernel

/-- The part whose smoke device has an Announced move to index 50. -/
def announced : State := site.setDev 0 { smoke with move := some { target := 50, stage := .announced } }

theorem witness_MoveAndCancelMoveDecided :
    site.takes hS .moveDevice ∧ site.takes hS .cancelMove ∧ 192 ≤ (192 : Byte).toNat ∧ (0 : Byte).toNat < 192 ∧
      (191 : Byte).toNat = (191 : DevIx).val ∧ (site.dev 0).move = none ∧ announced.takes hS .cancelMove ∧
      (announced.dev 0).move = some { target := 50, stage := .announced } ∧
      ((after (.moveDevice hS [0, 191]) site).dev 0).move = some { target := 191, stage := .pending } := by
  unfold State.takes
  decide +kernel

theorem test_move_device :
    said .S (after (.moveDevice hS [0, 192]) site) = some (.badTarget, 192) ∧
      said .S (after (.moveDevice hS [0, 191]) threeCells) = some (.cellAbsent, 0) ∧
      said .S (after (.moveDevice hS [7, 191]) site) = some (.vacantTarget, 0) ∧
      said .S (after (.moveDevice hS [0, 0]) site) = some (.badValue, 0) ∧
      said .S (after (.moveDevice hS [3, 191]) site) = some (.wrongState, 0) ∧
      said .S (after (.moveDevice hS [0, 50]) announced) = some (.wrongState, 0) ∧
      said .S (after (.moveDevice hS [1, 50]) announced) = some (.slotTaken, 0) ∧
      said .S (after (.moveDevice hS [0, 191]) site) = some (.done, 0) := by decide +kernel

theorem test_cancel_move :
    said .S (after (.cancelMove hS [0]) site) = some (.wrongState, 0) ∧
      ((after (.cancelMove hS [0]) announced).dev 0).shadow = some 50 ∧
      ((after (.cancelMove hS [0]) announced).dev 0).move = none := by decide +kernel

/-- The smoke device with a pinned direct route and a learned route by relay 3. -/
def routed : Device :=
  { smoke with routes :=
      { first := some { path := 0, quality := 8, age := 0, delivered := false, pinned := true }
        second := some { path := 3, quality := 5, age := 2, delivered := true, pinned := false } } }

/-- The part with those routes, and with both routes pinned. -/
def routes : State := site.setDev 0 routed
def pinned : State :=
  site.setDev 0 { routed with routes := routed.routes.pin 3 }

theorem witness_PinAndUnpinDecided :
    routes.takes hS .pinRoute ∧ routes.takes hS .unpinRoute ∧ 192 ≤ (192 : Byte).toNat ∧
      (191 : Byte).toNat = (191 : DevIx).val ∧ (routes.dev 191).life = .vacant ∧ (routes.dev 3).life = .enrolling ∧
      (routes.dev 0).life.owns = true ∧ 16 ≤ (16 : Byte).toNat ∧ (15 : Byte).toNat = (15 : Path).val ∧
      (routes.dev 2).kind = .repeater ∧ (routes.dev 2).relay = 3 ∧ (routes.dev 2).life ≠ .vacant := by
  unfold State.takes
  decide +kernel

theorem test_pin_route :
    said .S (after (.pinRoute hS [0, 16]) routes) = some (.badValue, 0) ∧
      said .S (after (.pinRoute hS [0, 15]) routes) = some (.badValue, 0) ∧
      said .S (after (.pinRoute hS [2, 3]) routes) = some (.badValue, 0) ∧
      said .S (after (.pinRoute hS [0, 0]) routes) = some (.noChange, 0) ∧
      active (after (.pinRoute hS [0, 3]) routes) = some (.command (.pin 0 0x10 3)) := by decide +kernel

theorem test_unpin_route :
    said .S (after (.unpinRoute hS [0, 15]) routes) = some (.wrongState, 0) ∧
      said .S (after (.unpinRoute hS [0, 3]) routes) = some (.noChange, 0) ∧
      active (after (.unpinRoute hS [0, 0]) routes) = some (.command (.unpin 0 0x10 0)) := by decide +kernel

theorem witness_ParameterCommandsDecided :
    site.takes hS .setZoneParameters ∧ site.takes hS .setSiteParameters ∧ site.takes hS .setCellChannel ∧
      32 ≤ (32 : Byte).toNat ∧ (31 : Byte).toNat = (31 : ZoneIx).val ∧ 4 ≤ (4 : Byte).toNat ∧
      (3 : Byte).toNat = (3 : CellIx).val ∧ (threeCells.cell 3).state = .absent ∧ (site.cell 3).state ≠ .off ∧
      (31 : Byte).toNat = (31 : Channel).val ∧ threeCells.takes hS .setCellChannel := by
  unfold State.takes
  decide +kernel

/-- The default set is NO_CHANGE, thresholds that do not rise and N not below L are BAD_VALUE (R92, R93). -/
theorem test_set_zone_parameters :
    said .S (after (.setZoneParameters hS [31, 0, 0, 120, 10, 18, 20, 32, 2, 30, 20, 60, 116, 20, 16]) site) =
        some (.noChange, 0) ∧
      said .S (after (.setZoneParameters hS [31, 0, 0, 120, 18, 18, 20, 32, 2, 30, 20, 60, 116, 20, 16]) site) =
        some (.badValue, 0) ∧
      said .S (after (.setZoneParameters hS [31, 0, 0, 120, 10, 18, 20, 32, 2, 30, 60, 60, 116, 20, 16]) site) =
        some (.badValue, 0) ∧
      active (after (.setZoneParameters hS [31, 0, 0, 29, 10, 18, 20, 32, 9, 30, 20, 60, 116, 20, 16]) site) =
        some (.command (.zone 31 { corrWindow := 30, verifications := 4 })) := by decide +kernel

theorem test_set_site_parameters :
    said .S (after (.setSiteParameters hS [4, 16, 1, 44, 4, 2, 1]) site) = some (.noChange, 0) ∧
      active (after (.setSiteParameters hS [1, 65, 0, 59, 0, 16, 1]) site) =
        some (.command (.site { missLimit := 2, routeAge := 64, holdOff := 60, wFault := 1, wWarning := 15, wStatus := 1 })) := by
  decide +kernel

/-- The part with cell 1 Off, and with cell 1 Failed. -/
def cellOff : State := site.modCell 1 fun r => { r with state := .off }
def cellFailed : State := site.modCell 1 fun r => { r with state := .failed, unconfirmed := 2 }

theorem test_set_cell_channel :
    said .S (after (.setCellChannel hS [1, 31]) site) = some (.wrongState, 0) ∧
      said .S (after (.setCellChannel hS [1, 32]) cellOff) = some (.badValue, 0) ∧
      said .S (after (.setCellChannel hS [1, 3]) cellOff) = some (.badValue, 0) ∧
      said .S (after (.setCellChannel hS [1, 10]) cellOff) = some (.noChange, 0) ∧
      active (after (.setCellChannel hS [1, 31]) cellOff) = some (.command (.channel 1 31)) := by decide +kernel

theorem witness_StopAndStartCellByState :
    site.takes hS .stopCell ∧ site.takes hS .startCell ∧ 4 ≤ (4 : Byte).toNat ∧ (3 : Byte).toNat = (3 : CellIx).val ∧
      (site.cell 1).state = .running ∧ (cellOff.cell 1).state = .off ∧ (cellFailed.cell 1).state = .failed ∧
      (threeCells.cell 3).state = .absent := by
  unfold State.takes
  decide +kernel

theorem test_stop_cell :
    ((after (.stopCell hS [1]) site).cell 1).state = .stopping ∧
      said .S (after (.stopCell hS [1]) cellOff) = some (.noChange, 0) ∧
      ((after (.stopCell hS [1]) cellFailed).cell 1).state = .off ∧
      said .S (after (.stopCell hS [3]) threeCells) = some (.cellAbsent, 0) := by decide +kernel

theorem test_start_cell :
    ((after (.startCell hS [1]) (after (.stopCell hS [1]) site)).cell 1).state = .running ∧
      ((after (.startCell hS [1]) cellOff).cell 1).startPending = true ∧
      said .S (after (.startCell hS [1]) cellFailed) = some (.noChange, 0) ∧
      said .S (after (.startCell hS [4]) site) = some (.badTarget, 4) := by decide +kernel

/-! ## Write ends -/

/-- The stored entry that an enrolment of index 7 writes. -/
def entry : StoredEntry := { identity := 0x20, kind := .heat, zone := 2, relay := 0, granted := false }

theorem witness_WriteEndSettlesBanks :
    ((writingOf (.roster [3]) .restart).store.active =
        some { job := .roster [3], image := image, replaced := [3] }) ∧
      (writingOf (.roster [3]) .restart).phase = .running := by decide +kernel

theorem test_roster_write_end :
    (after (.rosterWriteEnd true) (writingOf (.roster [3]) .restart)).store.current = some .one ∧
      (after (.rosterWriteEnd false) (writingOf (.roster [3]) .restart)).store.current = some .zero ∧
      ((after (.rosterWriteEnd false) (writingOf (.roster [3]) .restart)).dev 3).outstanding = true := by decide +kernel

theorem witness_FailedWriteLeavesWorkingState :
    (writingOf (.command (.enrol 7 entry)) .enrolDevice).writing (.enrol 7 entry) 9 ∧
      (writingOf (.command (.remove 2 0x12 (some 3))) .removeDevice).writing (.remove 2 0x12 (some 3)) 9 ∧
      (writingOf (.command (.pin 0 0x10 3)) .pinRoute).writing (.pin 0 0x10 3) 9 ∧
      (writingOf (.command (.unpin 0 0x10 0)) .unpinRoute).writing (.unpin 0 0x10 0) 9 ∧
      (writingOf (.command (.zone 1 {})) .setZoneParameters).writing (.zone 1 {}) 9 ∧
      (writingOf (.command (.site {})) .setSiteParameters).writing (.site {}) 9 ∧
      (writingOf (.command (.channel 1 31)) .setCellChannel).writing (.channel 1 31) 9 := by
  refine ⟨⟨rfl, rfl, ⟨_, rfl⟩, ?_⟩, ⟨rfl, rfl, ⟨_, rfl⟩, ?_⟩, ⟨rfl, rfl, ⟨_, rfl⟩, ?_⟩, ⟨rfl, rfl, ⟨_, rfl⟩, ?_⟩,
    ⟨rfl, rfl, ⟨_, rfl⟩, ?_⟩, ⟨rfl, rfl, ⟨_, rfl⟩, ?_⟩, ⟨rfl, rfl, ⟨_, rfl⟩, ?_⟩⟩ <;> exact Nat.zero_lt_succ 3

theorem test_failed_write :
    said .S (after (.enrolDeviceWriteEnd false) (writingOf (.command (.enrol 7 entry)) .enrolDevice)) =
        some (.storeWriteFailed, 0) ∧
      ((after (.enrolDeviceWriteEnd false) (writingOf (.command (.enrol 7 entry)) .enrolDevice)).dev 7).life =
        .vacant := by decide +kernel

/-- Device and parameter write ends use the states of witness_FailedWriteLeavesWorkingState; here are the premises
about the records. -/
theorem witness_DeviceWriteEnds :
    (site.dev 2).life ≠ .vacant ∧ (site.dev 2).identity = 0x12 ∧
      (∀ k, (site.dev k).life ≠ .vacant → (site.dev k).identity = 0x12 → k = 2) ∧
      (∀ k, (site.dev k).life ≠ .vacant → (site.dev k).identity = 0x10 → k = 0) ∧
      (∀ k, (site.dev k).life ≠ .vacant → (site.dev k).identity ≠ 0x77) := by decide +kernel

theorem test_enrol_write_end :
    said .S (after (.enrolDeviceWriteEnd true) (writingOf (.command (.enrol 7 entry)) .enrolDevice)) =
        some (.done, 0) ∧
      ((after (.enrolDeviceWriteEnd true) (writingOf (.command (.enrol 7 entry)) .enrolDevice)).dev 7).deadline =
        some 2500 := by decide +kernel

theorem test_remove_write_end :
    ((after (.removeDeviceWriteEnd true)
      { writingOf (.command (.remove 2 0x12 (some 3))) .removeDevice with roster := routes.roster }).dev 2).life =
        .vacant ∧
      ((after (.removeDeviceWriteEnd true)
        { writingOf (.command (.remove 2 0x12 (some 3))) .removeDevice with roster := routes.roster }).dev 0).routes =
        { first := routed.routes.first } := by decide +kernel

theorem test_pin_write_ends :
    ((after (.pinRouteWriteEnd true)
      { writingOf (.command (.pin 0 0x10 3)) .pinRoute with roster := routes.roster }).dev 0).routes.bothPinned = true ∧
      ((after (.unpinRouteWriteEnd true)
        { writingOf (.command (.unpin 0 0x10 0)) .unpinRoute with roster := routes.roster }).dev 0).routes.first =
        some { path := 0, quality := 8, age := 0, delivered := false, pinned := false } := by decide +kernel

theorem witness_ParameterWriteEnds :
    (site.dev 0).life = .supervised ∧ (site.dev 0).kind = .smoke ∧ (site.dev 0).zone = 1 ∧
      (site.dev 0).smoke.baseline = some 320 ∧
      ({ compLimit := 20 } : ZoneParams).compLimit ≠ (site.zone 1).params.compLimit ∧ (site.dev 3).zone ≠ 1 := by
  decide +kernel

/-- With L lowered to 20 the baseline of 320 stands at 16L, and Contaminated is added (R77). -/
theorem test_zone_write_end :
    ((after (.setZoneParametersWriteEnd true)
      (writingOf (.command (.zone 1 { compLimit := 20 })) .setZoneParameters)).dev 0).faults.contaminated = true := by
  decide +kernel

/-- The baseline of a Missing member is brought within L 19, and its fault causes stay (R75, R93). -/
theorem test_missing_member_limited :
    ((after (.setZoneParametersWriteEnd true)
      { writingOf (.command (.zone 1 { compLimit := 19 })) .setZoneParameters with
        roster := (site.setDev 0 { smoke with life := .missing }).roster }).dev 0) =
      { smoke with life := .missing, smoke := { smoke.smoke with baseline := some 304 } } := by decide +kernel

/-- A write of a corroboration window of wSecs seconds for an Alerted zone 1 whose single latch was taken at 0; the run
clock stands at 100 quarters. -/
def windowWrite (wSecs : Nat) : State :=
  { writingOf (.command (.zone 1 { mode := .corroborated, corrWindow := wSecs })) .setZoneParameters with
    roster := (site.setDev 1 { point with kind := .heat }).roster
    zones := (site.setZone 1 { cond := .alerted, generation := 5, firstLatch := some 0, params := { mode := .corroborated } }).zones }

/-- The clause of a corroboration that lapses at the write end, at its boundary: 25 s have run, and 26 have not. -/
theorem witness_zone_write_lapses :
    (windowWrite 25).writing (.zone 1 { mode := .corroborated, corrWindow := 25 }) 9 ∧
      (windowWrite 25).countedMember 1 ((windowWrite 25).dev 1) = true ∧
      ((windowWrite 25).dev 1).cond = .fireLatched ∧
      (∀ k, (windowWrite 25).countedMember 1 ((windowWrite 25).dev k) = true →
        ((windowWrite 25).dev k).cond = .fireLatched → k = 1) ∧
      ((after (.setZoneParametersWriteEnd true) (windowWrite 25)).zone 1).cond = .quiet ∧
      ((after (.setZoneParametersWriteEnd true) (windowWrite 25)).dev 1).cond = .quiet ∧
      ((after (.setZoneParametersWriteEnd true) (windowWrite 26)).zone 1).cond = .alerted := by
  refine ⟨⟨rfl, rfl, ⟨_, rfl⟩, by unfold State.answers; decide +kernel⟩, by decide +kernel⟩

theorem test_site_and_channel_write_ends :
    (after (.setSiteParametersWriteEnd true)
      (writingOf (.command (.site { missLimit := 2 })) .setSiteParameters)).site.missLimit = 2 ∧
      ((after (.setCellChannelWriteEnd true) (writingOf (.command (.channel 1 31)) .setCellChannel)).cell 1).channel =
        31 := by decide +kernel

/-- The part with two requests waiting and none in progress. -/
def waiting : State :=
  { site with store := { bank0 := image.sealed, current := some .zero, invalid := false,
                         waiting := [.roster [0], .command (.zone 1 {})] } }

/-- The image of bank 0 is in force: a statement about a bank's CRC is proved, since the layout of the bytes it covers is
free (log 11). -/
theorem waiting_inForce : waiting.store.inForce = some image := Image.sealed_image image

theorem witness_WaitingWriteStartsInOrder :
    waiting.store.inForce = some image ∧ waiting.phase = .running ∧ waiting.store.active = none ∧
      active (after .storeWriteStart waiting) = some (.roster [0]) ∧
      (0 : DevIx) ∈ [(0 : DevIx)] ∧ (waiting.dev 0).life ≠ .vacant ∧ (waiting.dev 191).life = .vacant :=
  ⟨waiting_inForce, by decide +kernel⟩

/-- The part without an image in force, whose smoke device pins both its routes and has moved to index 50. -/
def movedAway : State := (site.setDev 0 {}).setDev 50 { routed with routes := routed.routes.pin 3 }

/-- The records that a removal and a pin are about stand where the statement says, and no record has identity 0x77. -/
theorem witness_CommandImageReplacesItsRecords :
    ((pinned.dev 2).life ≠ .vacant ∧ (pinned.dev 2).identity = 0x12 ∧
      ∀ k, (pinned.dev k).life ≠ .vacant → (pinned.dev k).identity = 0x12 → k = 2) ∧
    ((movedAway.dev 50).life ≠ .vacant ∧ (movedAway.dev 50).identity = 0x10 ∧
      ∀ k, (movedAway.dev k).life ≠ .vacant → (movedAway.dev k).identity = 0x10 → k = 50) ∧
    (∀ k, (pinned.dev k).life ≠ .vacant → (pinned.dev k).identity ≠ 0x77) := by decide +kernel

/-- A removal erases its record's entry, where a transfer has left it too, and the pins on its relay number (R14). -/
theorem test_remove_image :
    (pinned.composed (.command (.remove 2 0x12 (some 3)))).roster[(2 : DevIx)] = none ∧
      ((pinned.composed (.command (.remove 2 0x12 (some 3)))).roster[(0 : DevIx)].map fun e =>
        (e.pinFirst, e.pinSecond)) = some (some 0, none) ∧
      (movedAway.composed (.command (.remove 0 0x10 none))).roster[(50 : DevIx)] = none := by decide +kernel

/-- The part with an image in force whose entry for index 0 stores no pin though the record pins path 0. -/
def oldPins : State :=
  { routes with store :=
      { bank0 := { image with roster := image.roster.set 0 (some { entry with identity := 0x10 }) }.sealed
        current := some .zero, invalid := false } }

/-- A pin adds its own route alone to a stored entry whose store-outstanding flag is clear (R168). -/
theorem test_pin_image :
    (oldPins.composed (.command (.pin 0 0x10 3))).roster[(0 : DevIx)] =
      some { entry with identity := 0x10, pinSecond := some 3 } := by
  rw [oldPins.pin_image 0x10 3 (Image.sealed_image _) (i := 0) (by decide +kernel)]
  decide +kernel

/-- Path 5 learned before path 3 pins in the position where path 3 is stored: path 3 stays stored (R168; log 13). -/
theorem test_pin_keeps_stored_route :
    let r : Path → Route := fun p => { path := p, quality := 0, age := 0, delivered := false, pinned := true }
    ({ entry with pinFirst := some 3 } : StoredEntry).addPin 5 { first := some (r 5), second := some (r 3) } =
      { entry with pinFirst := some 3, pinSecond := some 5 } := by decide

/-! ## Copies -/

/-- A Report copy of a device heard directly at tick 655, and an Alarm copy by relay 3. -/
def report (id reading : Byte) (path : Byte := 0) (arrival : Fin 8192 := 655) : Copy :=
  { bytes := [1, 0, 0, id, 5, reading, 7, path], good := true, level := 9, arrival := arrival, taken := arrival }
def alarm (id reading : Byte) (path : Byte := 0) (arrival : Fin 8192 := 655) : Copy :=
  { bytes := [2, 0, 0, id, 5, reading, 7, path], good := true, level := 9, arrival := arrival, taken := arrival }

/-- The part in an alarm interval and in the enrolment interval. -/
def inAlarm : State := { site with time := { interval := 8 } }
def enrolling : State := { site with time := { interval := 7 } }

/-- The part in report interval 1 with cell 0 deaf, and with three copies examined. -/
def deaf : State := site.modCell 0 fun r => { r with deaf := true }
def busyList : State :=
  site.modCell 0 fun r => { r with work := List.replicate 3 { path := 9, identity := 0, outcome := .accepted } }

/-- One failure per clause: not operating, deaf, late, bad verdict, list full, then tests 2 to 6 of R34. -/
theorem witness_CopiesTestedInOrder :
    (threeCells.cell 3).state = .absent ∧ (deaf.cell 0).deaf = true ∧
      3758 ≤ (report 0x10 20 0 3758).taken.val ∧ Uplink.parse [0] = none ∧ 3 ≤ (busyList.cell 0).work.length ∧
      ((after (.receivedCopy 0 (report 0x10 20 0 3758)) site).cell 0).stats = { window := 1 } ∧
      ((after (.receivedCopy 0 { report 0x10 20 with good := false }) site).cell 0).stats = { integrity := 1 } ∧
      ((after (.receivedCopy 0 (alarm 0x10 20)) site).cell 0).stats = { window := 1 } ∧
      ((after (.receivedCopy 0 (report 0x10 20 0 174)) site).cell 0).stats = { window := 1 } ∧
      ((after (.receivedCopy 0 (report 0x10 20 0 1136)) site).cell 0).stats = { window := 1 } ∧
      ((after (.receivedCopy 0 (report 0x10 20 2 3277)) site).cell 0).stats = { foreignId := 1 } ∧
      ((after (.receivedCopy 0 (report 0x11 20)) site).cell 0).stats = { foreignId := 1 } ∧
      ((after (.receivedCopy 0 (report 0x10 20)) site).cell 0).stats = {} := by decide +kernel

/-- An Enrol copy by a path. -/
def request (id kind : Byte) (path : Byte := 0) (arrival : Fin 8192 := 655) : Copy :=
  { bytes := [3, 0, 0, id, kind, path], good := true, level := 9, arrival := arrival, taken := arrival }

/-- An Enrol copy outside the enrolment interval, outside its window, by an unknown relay, and a second one of an identity
already accepted, which is discarded uncounted (R34, R37). -/
theorem witness_enrol_copies_tested :
    ((after (.receivedCopy 0 (request 0x13 2)) site).cell 0).stats = { window := 1 } ∧
      ((after (.receivedCopy 0 (request 0x13 2 0 1136)) enrolling).cell 0).stats = { window := 1 } ∧
      ((after (.receivedCopy 0 (request 0x13 2 2 3277)) enrolling).cell 0).stats = { foreignId := 1 } ∧
      ((after (.receivedCopy 0 (request 0x99 2 3 3277)) (after (.receivedCopy 0 (request 0x99 2)) enrolling)).cell 0).stats =
        { unmatched := 1 } ∧
      ((after (.receivedCopy 0 (request 0x99 2 3 3277)) (after (.receivedCopy 0 (request 0x99 2)) enrolling)).cell
        0).work.map (fun w => w.outcome) = [.accepted, .discarded] := by decide +kernel

theorem witness_copy_conflict :
    ((after (.receivedCopy 0 { report 0x10 20 3 3277 with bytes := [1, 0, 0, 0x10, 6, 20, 7, 3] })
      (after (.receivedCopy 0 (report 0x10 20)) site)).cell 0).stats = { foreignId := 1 } := by decide +kernel

theorem witness_CopiesMatchedToOwners :
    site.time.slot = some 0 ∧ (site.dev 0).life.owns = true ∧
      site.matchCopy 0 (.report { identity := 0x10, seq := 5, reading := 20, battery := 7, path := 0 }) =
        some (0, .home) ∧
      inAlarm.matchCopy 0 (.alarm { identity := 0x11, seq := 5, reading := 1, battery := 7, path := 0 }) =
        some (1, .home) ∧
      (site.setDev 48 { smoke with identity := 0x30, shadow := some 0 }).matchCopy 0
        (.report { identity := 0x30, seq := 5, reading := 20, battery := 7, path := 0 }) = some (48, .shadow) ∧
      inAlarm.matchCopy 1 (.alarm { identity := 0x11, seq := 5, reading := 1, battery := 7, path := 0 }) = none ∧
      site.matchCopy 0 (.report { identity := 0x11, seq := 5, reading := 1, battery := 7, path := 0 }) = none ∧
      (inAlarm.setDev 0 { smoke with shadow := some 5 }).matchCopy 0
        (.alarm { identity := 0x10, seq := 5, reading := 1, battery := 7, path := 0 }) = some (0, .shadow) := by
  decide +kernel

theorem witness_AcceptedFrameReachesSupervision :
    acceptedFirst site 0 (report 0x10 20)
        (.report { identity := 0x10, seq := 5, reading := 20, battery := 7, path := 0 })
        { identity := 0x10, seq := 5, reading := 20, battery := 7, path := 0 } 0 .home ∧
      acceptedFirst inAlarm 0 (alarm 0x11 1)
        (.alarm { identity := 0x11, seq := 5, reading := 1, battery := 7, path := 0 })
        { identity := 0x11, seq := 5, reading := 1, battery := 7, path := 0 } 1 .home ∧
      ((site.setDev 0 { smoke with lastSeq := some 5 }).dev 0).lastSeq = some 5 := by
  unfold acceptedFirst acceptedCopy
  decide +kernel

/-- The smoke device with slot 0 of cell 1 as its shadow slot, heard in it with number 5 in the interval. -/
def heardInShadow : State :=
  (site.setDev 0 { smoke with shadow := some 48, lastSeq := some 5 }).modCell 1 fun r =>
    { r with frames := [{ index := 0, identity := 0x10, seq := 5, via := .shadow }] }

/-- A copy of the same frame in its home slot is a later copy. -/
theorem witness_LaterCopyTeachesRoutes :
    acceptedCopy heardInShadow 0 (report 0x10 20)
        (.report { identity := 0x10, seq := 5, reading := 20, battery := 7, path := 0 })
        { identity := 0x10, seq := 5, reading := 20, battery := 7, path := 0 } 0 .home ∧
      (∃ g ∈ (heardInShadow.cell 1).frames, g.identity = 0x10) := by
  unfold acceptedCopy
  decide +kernel

/-- A report with number 4 in the home slot conflicts with the frame that the shadow slot's cell took (R36, R89). -/
theorem test_conflict_across_cells :
    let t := after (.receivedCopy 0 { report 0x10 20 with bytes := [1, 0, 0, 0x10, 4, 20, 7, 0] }) heardInShadow
    (t.cell 0).stats = { foreignId := 1 } ∧ t.dev 0 = heardInShadow.dev 0 := by decide +kernel

/-- A new report of 12 units is taken, and a repeat of the last sequence is not (R12, R13). -/
theorem test_report_and_repeat :
    ((after (.receivedCopy 0 (report 0x10 12)) site).dev 0).lastReading = some (12, 100) ∧
      ((after (.receivedCopy 0 (report 0x10 12)) (site.setDev 0 { smoke with lastSeq := some 5 })).dev 0).lastReading =
        none := by decide +kernel

/-- The frames of witness_AcceptedFrameReachesSupervision are new: 5 is not the last sequence of either entry. A battery
class of 1 adds LowBattery, one of 2 does not, and an operated call point latches (R64, R86). -/
theorem witness_NewFrameIsEvaluated :
    (site.dev 0).lastSeq ≠ some 5 ∧ (inAlarm.dev 1).lastSeq ≠ some 5 ∧
      ((after (.receivedCopy 0 { report 0x10 20 with bytes := [1, 0, 0, 0x10, 5, 20, 1, 0] }) site).dev
        0).faults.lowBattery = true ∧
      ((after (.receivedCopy 0 { report 0x10 20 with bytes := [1, 0, 0, 0x10, 5, 20, 2, 0] }) site).dev
        0).faults.lowBattery = false ∧
      ((after (.receivedCopy 0 (alarm 0x11 1)) (inAlarm.setDev 1 { point with cond := .quiet })).zone 1).generation =
        6 := by decide +kernel

/-- A later copy of a report leaves a shadow slot that the entry gained since the first one (R36). -/
theorem test_later_copy_keeps_shadow :
    ((after (.receivedCopy 0 (report 0x10 20 3 3277))
      ((after (.receivedCopy 0 (report 0x10 20)) site).modDev 0 fun d => { d with shadow := some 50 })).dev 0).shadow =
      some 50 := by decide +kernel

theorem witness_EnrolRequestsMatched :
    enrolling.phase = .running ∧ (enrolling.cell 0).state = .running ∧ (enrolling.cell 0).deaf = false ∧
      Uplink.parse (request 0x13 2).bytes = some (.enrol 0x13 2 0) ∧ (enrolling.cell 0).work = [] ∧
      enrolling.copyOutcome 0 (.enrol 0x13 2 0) 655 = .accepted ∧ enrolling.time.interval = 7 ∧
      enrolling.holder 0x13 = some 3 ∧ (enrolling.dev 3).grantable = true ∧ enrolling.holder 0x99 = none ∧
      (enrolling.cell 0).claim = none ∧ (after (.receivedCopy 0 (request 0x99 2)) enrolling).cell 0 ≠ enrolling.cell 0 ∧
      ((after (.receivedCopy 0 (request 0x13 1)) enrolling).cell 0).stats = { unmatched := 1 } := by decide +kernel

/-! ## Downlinks, cells and the schedule -/

/-- The part in the enrolment interval with the claim of the Enrolling device granted. -/
def claimed : State :=
  enrolling.modCell 0 fun r => { r with claim := some { identity := 0x13, kind := 2, path := 0, grant := some 3 } }

theorem witness_AcknowledgementOfFirstFrame :
    site.phase = .running ∧ site.time.interval ≠ 0 ∧ site.time.interval ≠ 7 ∧ (site.cell 0).state = .running ∧
      (site.cell 0).assembled = false ∧ (site.cell 0).frames = [] ∧
      ((after (.downlinkAssembly 0) (after (.receivedCopy 0 (report 0x10 12)) site)).cell 0).lastTx ≠ none := by
  decide +kernel

/-- A baseline of 320 is 20 units, plus Tpre 10; without one the nominal 20 stands; Heat is 116 − 20 + 40 (R90). -/
theorem witness_wake_levels :
    wakeLevel smoke {} = 30 ∧ wakeLevel { smoke with smoke := {} } { profile := .service } = 40 ∧
      wakeLevel { kind := .heat } {} = 136 ∧ wakeLevel point {} = 1 ∧ wakeLevel relay {} = 255 := by decide

/-- The acknowledgement bytes by hand: identity, sequence, correction 0, wake level 20 + 10, no flags, no
reassignment, direct (R39, section 10.4). -/
theorem test_acknowledgement_bytes :
    (((after (.downlinkAssembly 0) (after (.receivedCopy 0 (report 0x10 12)) site)).cell 0).lastTx.map fun x => x.bytes) =
      some [0x11, 0, 0, 0x10, 5, 0, 0, 30, 0, 0, 0, 0, 0] := by decide +kernel

theorem witness_GrantMakesCalibrating :
    claimed.phase = .running ∧ claimed.time.interval = 7 ∧ (claimed.cell 0).state = .running ∧
      (claimed.cell 0).assembled = false ∧ (claimed.dev 3).life = .enrolling ∧ (claimed.dev 3).identity = 0x13 ∧
      claimed.restart = .idle ∧ (after (.restart hS []) claimed).restart ≠ .idle ∧
      ((after (.downlinkAssembly 0) claimed).dev 3).life = .calibrating ∧
      ((claimed.setDev 3 { fresh with life := .calibrating, granted := true, deadline := none }).dev 3).lastSeq = none ∧
      ((after (.downlinkAssembly 0) (claimed.setDev 3 {})).cell 0).stats = { unmatched := 1 } := by decide +kernel

theorem witness_CellsFollowTheirBeacons :
    { site with time := { superframeDue := true } }.time.superframeDue = true ∧ site.phase = .running ∧
      ((after .superframeBoundary { cellOff with time := { superframeDue := true } }).cell 1).state = .off ∧
      ((after .superframeBoundary (after .superframeBoundary { site with time := { superframeDue := true } })).cell
        0).unconfirmed = 1 ∧
      (cellFailed.cell 1).state = .failed ∧ (site.cell 1).beaconRequested = false := by decide +kernel

/-- A Stopping cell becomes Off with DeviceFault for its entries, and a Failed cell whose beacon is confirmed returns with
DeviceRestored, in index order (R52). -/
theorem test_cell_changes_tell :
    let due := { site.modCell 0 fun r => { r with state := .stopping } with time := { superframeDue := true } }
    (after .superframeBoundary due).events.map (·.body) =
        [.deviceFault 0 .unsupervised, .deviceFault 1 .unsupervised, .deviceFault 2 .unsupervised] ∧
      ((after .superframeBoundary due).cell 0).beaconRequested = false ∧
      ((after .superframeBoundary due).cell 1).beaconRequested = true := by decide +kernel

/-- A Failed cell whose beacon is requested returns to Running at its confirm; another cell takes its flag (R28). -/
theorem test_beacon_confirm :
    ((after (.transmitConfirm 1 { interval := 0, tick := 655, phase := 0, cycle := 0 })
      (cellFailed.modCell 1 fun r => { r with beaconRequested := true })).cell 1).state = .running ∧
      ((after (.transmitConfirm 1 { interval := 0, tick := 655, phase := 0, cycle := 0 })
        (site.modCell 1 fun r => { r with beaconRequested := true })).cell 1).beaconConfirmed = true ∧
      ((after (.transmitConfirm 1 { interval := 0, tick := 655, phase := 1, cycle := 0 })
        (site.modCell 1 fun r => { r with beaconRequested := true })).cell 1).beaconConfirmed = false := by decide +kernel

/-- The carries of R23 at the last interval of the last phase, where a pending restart reaches its boundary. -/
theorem witness_IntervalEndAdvancesClocks :
    site.phase = .running ∧
      (after .intervalEnd { site with time := { interval := 11, phase := 7, cycle := 65535 } }).time =
        { superframeDue := true, cycleDue := true } ∧
      (after .intervalEnd { site with time := { interval := 11 }, restart := .pending }).restart = .due ∧
      (after .intervalEnd { site with time := { interval := 6 }, restart := .pending }).restart = .pending := by
  decide +kernel

/-- The part in the report interval of index 0, whose slot is expected, after three misses. -/
def thirdMiss : State :=
  (site.setDev 0 { smoke with missCount := 3 }).modCell 0 fun r => { r with slots := r.slots.set 0 .expecting }

theorem witness_SlotCloseCountsMisses :
    thirdMiss.phase = .running ∧ thirdMiss.time.slot = some 0 ∧ homeSlot 0 = 0 ∧
      (thirdMiss.cell (homeCell 0)).slots[(0 : Slot)] ≠ .unowned ∧ (thirdMiss.dev 0).heard = false ∧
      ((after .intervalEnd thirdMiss).dev 0).life = .missing ∧
      ((after .intervalEnd (thirdMiss.setDev 0 { smoke with missCount := 2 })).dev 0).missCount = 3 ∧
      ((after .intervalEnd (thirdMiss.setDev 0 { smoke with missCount := 3, heard := true })).dev 0).missCount = 0 := by
  decide +kernel

/-- At the third miss of four the entry of index 0 is declared Missing; with one route by relay 3, whose Repeater is
Missing, the relay-lost flag is set (R49). -/
theorem test_slot_close_marks_and_declares :
    ((after .intervalEnd thirdMiss).cell 0).slots[(0 : Slot)] = .missed ∧ thirdMiss.slotDeclares 0 0 ∧
      (after .intervalEnd thirdMiss).events.map (·.body) = [.deviceMissing 0 false] := by decide +kernel

theorem witness_device_missing :
    (thirdMiss.dev 0).heard = false ∧ (thirdMiss.dev 0).life = .supervised ∧
      thirdMiss.site.missLimit ≤ (thirdMiss.dev 0).missCount + 1 ∧ thirdMiss.relayLost (thirdMiss.dev 0) = false ∧
      (thirdMiss.setDev 2 { relay with life := .missing }).relayLost
        { smoke with routes := { first := some { path := 3, quality := 5, age := 2, delivered := false, pinned := false } } } =
          true := by decide +kernel

/-- The part at a cycle boundary with an Announced move of index 0 to index 50. -/
def transfer : State := { announced with time := { cycleDue := true } }

theorem witness_CycleBoundaryTransfersMoves :
    transfer.phase = .running ∧ transfer.time.cycleDue = true ∧ transfer.restart ≠ .due ∧
      (transfer.dev 0).move = some { target := 50, stage := .announced } ∧ transfer.restart = .idle ∧
      active (after .cycleBoundary transfer) = some (.roster [0, 50]) ∧
      ((after .cycleBoundary { transfer with restart := .pending }).dev 50).outstanding = true ∧
      active (after .cycleBoundary { transfer with restart := .pending }) = none := by decide +kernel

/-- The transfer state obeys the roster law: index 50 is claimed by index 0 alone, and nothing is being written. -/
theorem witness_CycleBoundary_rosterSound : transfer.rosterSound := by
  have hd : ∀ j, j ≠ 0 → (transfer.dev j).shadow = none ∧ (transfer.dev j).move = none := by decide +kernel
  have h0 : (transfer.dev 0).shadow = none ∧ (transfer.dev 0).move = some { target := 50, stage := .announced } := by
    decide +kernel
  have h50 : (transfer.dev 50).life = .vacant := by decide +kernel
  have claim : ∀ i j, (transfer.dev j).claims i → j = 0 ∧ i = 50 := by
    intro i j h
    by_cases hj : j = 0
    · subst hj
      rcases h with h | h
      · simp [h0.1] at h
      · simp [Device.movesTo, h0.2] at h
        exact ⟨rfl, h.symm⟩
    · rcases h with h | h
      · simp [(hd j hj).1] at h
      · simp [Device.movesTo, (hd j hj).2] at h
  refine ⟨?_, ?_, ?_⟩
  · unfold State.devicesSound Device.sound
    decide +kernel
  · intro i j h
    obtain ⟨hj, hi⟩ := claim i j h
    subst hj hi
    exact ⟨h50, fun k hk => (claim _ _ hk).1⟩
  · refine ⟨by decide, ?_, ?_, ?_⟩
    · intro h; exact absurd rfl h
    · intro i e h; cases h
    · intro h; exact absurd rfl h

theorem test_cycle_boundary :
    ((after .cycleBoundary transfer).dev 50).shadow = some 0 ∧ ((after .cycleBoundary transfer).dev 0).life = .vacant ∧
      ((after .cycleBoundary transfer).cell 1).slots[(2 : Slot)] = .expecting ∧
      ((after .cycleBoundary transfer).cell 0).slots[(0 : Slot)] = .expecting := by decide +kernel

theorem witness_StepsNotDueChangeNothing :
    site.pending = [] ∧ site.phase = .running ∧ site.time.superframeDue = false ∧ site.time.cycleDue = false ∧
      { site with restart := .due }.restart = .due ∧ (∀ v, site.phase ≠ .probing v) ∧ site.restart ≠ .due ∧
      (after .startUp State.reset).phase = .probing (Vector.replicate 4 false) := by
  refine ⟨rfl, rfl, rfl, rfl, rfl, ?_, by decide, rfl⟩
  intro v h
  cases h

/-! ## Condition evaluation -/

/-- The setting of an evaluation at run clock 1000 in a zone of default parameters, with the default hold-off. -/
def setting : Setting := { i := 0, now := 1000, zone := {}, holdOff := 300 }

/-- An evaluated smoke, heat and call point record. -/
def heat : Device := { life := .supervised, kind := .heat, heat := { reference := some (20, 760) } }

theorem witness_FaultCodesDecoded :
    smoke.kind ≠ .repeater ∧ (evaluation setting smoke 251).d.faults.sensorFault = true ∧
      (evaluation setting { smoke with cond := .preAlarm } 252).d.cond = .quiet ∧
      (evaluation setting smoke 255).events = [.deviceFault 0 .selfTestFailed] ∧
      (evaluation setting smoke 253).d = smoke := by decide

/-- A reading of 250 or of 254 removes the three reading causes in their order (R70). -/
theorem witness_measurement_removes :
    (evaluation setting { point with faults := { sensorFault := true, headRemoved := true, selfTestFailed := true } }
      250).events = [.deviceRestored 0 (.cause .sensorFault), .deviceRestored 0 (.cause .headRemoved),
        .deviceRestored 0 (.cause .selfTestFailed)] ∧
      (evaluation setting { point with faults := { selfTestFailed := true } } 254).d.faults = {} := by decide

/-- A smoke record of seven calibration readings of 20, and one at the 64th drift reading. -/
def seven : Device := { life := .calibrating, kind := .smoke, smoke := { calCount := 7, calSum := 140 } }
def drifting : Device :=
  { smoke with smoke := { baseline := some 320, calCount := 8, calSum := 160, driftSum := 100, driftCount := 63 } }

/-- Eight readings of 20 set the baseline to 320; a drift sum of 100 + 16 · 24 − 320 = 164 moves it by 2 (R71, R75). -/
theorem witness_SmokeBaselineTracked :
    seven.kind = .smoke ∧ seven.life = .calibrating ∧ seven.smoke.baseline = none ∧ (20 : Byte).toNat ≤ 250 ∧
      (evaluation setting seven 20).d.smoke.baseline = some 320 ∧ (evaluation setting seven 20).d.life = .supervised ∧
      (evaluation setting { seven with smoke := { calCount := 6 } } 254).d.smoke.calSum = 250 ∧
      (evaluation setting drifting 24).d.smoke =
        { baseline := some 322, calCount := 8, calSum := 160, driftSum := 0, driftCount := 0 } ∧
      (evaluation setting smoke 24).d.smoke.driftSum = 64 ∧
      (evaluation setting { drifting with cond := .preAlarm } 24).d.smoke = drifting.smoke := by decide

/-- Alarm levels 18 and 17 stand at and below Tfire 18; the second candidate latches, in the window of 120 (R81). -/
theorem witness_SmokeVerificationLatches :
    smoke.kind = .smoke ∧ smoke.life = .supervised ∧ smoke.smoke.baseline = some 320 ∧ smoke.cond ≠ .fireLatched ∧
      1 ≤ setting.zone.params.verifications ∧
      (evaluation setting smoke 38).d.verif = { count := 1, first := some 1000, last := some 1000 } ∧
      (evaluation setting smoke 37).d.verif = {} ∧ (evaluation setting smoke 30).d.cond = .preAlarm ∧
      (evaluation setting smoke 29).d.cond = .quiet ∧
      (evaluation setting { smoke with verif := { count := 1, first := some 880, last := some 880 } } 38).latch =
        some (18, 120) ∧
      (evaluation setting { smoke with verif := { count := 1, first := some 879, last := some 879 } } 38).latch =
        none := by decide

/-- A Calibrating entry is compared with N 20, at its eighth reading with its new baseline of 22 units, and a FireLatched
one keeps its verification (R71, R73, R80). -/
theorem witness_smoke_of_every_state :
    seven.smoke.baseline = none ∧ seven.life = .calibrating ∧
      (evaluation setting { seven with smoke := { calCount := 3 } } 30).d.cond = .preAlarm ∧
      (evaluation setting { seven with smoke := { calCount := 3 } } 29).d.cond = .quiet ∧
      (evaluation setting seven 36).events = [.preAlarm 0 14] ∧
      (evaluation setting { smoke with cond := .fireLatched, verif := { count := 2 } } 5).d.verif = { count := 2 } := by
  decide

/-- From 20 to 36 degrees in 240 quarters is a rate of 16 half-degrees a minute, which latches; 35 is not (R83, R85). -/
theorem witness_HeatAndCallPointLatch :
    heat.kind = .heat ∧ point.kind = .callPoint ∧
      (evaluation setting heat 76).latch = some (76, 0) ∧ (evaluation setting heat 75).latch = none ∧
      (evaluation setting { heat with heat := {} } 156).latch = some (156, 0) ∧
      (evaluation setting { heat with heat := {} } 136).d.cond = .preAlarm ∧
      (evaluation setting { heat with heat := {}, cond := .preAlarm } 131).d.cond = .quiet ∧
      (evaluation setting { point with cond := .quiet } 1).latch = some (1, 0) ∧
      (evaluation setting { point with cond := .quiet } 0).latch = none ∧
      (evaluation setting point 0).d.cond = .fireLatched := by decide

/-! ## Zones and routes -/

/-- The PreAlarm event of a heat entry is created again 1200 quarters after the last, and not before (R79, R84). -/
theorem witness_heat_pre_alarm_hold_off :
    (evaluation { setting with now := 2200 } { heat with heat := {}, lastPreAlarm := some 1000 } 136).events =
        [.preAlarm 0 136] ∧
      (evaluation { setting with now := 2199 } { heat with heat := {}, lastPreAlarm := some 1000 } 136).events = [] := by
  decide

/-- Zone 1 Alerted since 0 with one latched heat device, in Corroborated mode. -/
def alerted : State :=
  (site.setDev 1 { point with kind := .heat }).setZone 1
    { cond := .alerted, generation := 5, firstLatch := some 0, params := { mode := .corroborated, corrWindow := 30 } }

theorem witness_ZoneConditionTaken :
    site.rollUp 1 = (site.zone 1).cond ∧ (site.modDev 1 Device.latchCleared).rollUp 1 ≠ (site.zone 1).cond ∧
      alerted.phase = .running ∧ alerted.countedMember 1 (alerted.dev 1) = true ∧
      (∀ k, alerted.countedMember 1 (alerted.dev k) = true → (alerted.dev k).cond = .fireLatched → k = 1) ∧
      ((after (.corroborationLapse 1) { alerted with runClock := 119 }).zone 1).cond = .alerted ∧
      ((after (.corroborationLapse 1) { alerted with runClock := 120 }).zone 1).cond = .quiet := by decide +kernel

/-- The standing test at Tpre 10 over a baseline of 20 units, at 116 − 20 degrees, and where it is never met (R88). -/
theorem witness_standing_tests :
    standingTest { smoke with lastReading := some (30, 9) } {} = true ∧
      standingTest { smoke with lastReading := some (29, 9) } {} = false ∧
      standingTest { smoke with lastReading := some (30, 9) } { profile := .service } = false ∧
      standingTest { kind := .heat, lastReading := some (136, 9) } {} = true ∧
      standingTest { kind := .heat, lastReading := some (135, 9) } {} = false ∧
      standingTest { point with lastReading := some (1, 9) } {} = false ∧
      standingTest { smoke with lastReading := some (255, 9) } {} = false ∧ standingTest smoke {} = false := by decide

/-- Two entries, the second of equal quality and greater age. -/
def pair : RoutePair :=
  { first := some { path := 0, quality := 6, age := 1, delivered := false, pinned := false }
    second := some { path := 3, quality := 6, age := 2, delivered := false, pinned := false } }

theorem witness_RoutesLearnAndReplace :
    pair.find 0 ≠ none ∧ pair.find 5 = none ∧ ({} : RoutePair).find 5 = none ∧ (pair.pin 0).bothPinned = false ∧
      ((pair.learn 0 9).find 0) = some { path := 0, quality := 7, age := 0, delivered := true, pinned := false } ∧
      ((pair.learn 5 9).first = pair.first) ∧ (((pair.pin 3).learn 5 9).second = (pair.pin 3).second) ∧
      (((pair.pin 0).pin 3).learn 5 9 = (pair.pin 0).pin 3) := by decide

/-! ## Deadlines, power and start-up -/

theorem witness_DeadlineVacatesEnrolling :
    site.phase = .running ∧ (site.dev 3).life = .enrolling ∧ (site.dev 3).deadline = some 100 ∧ site.runClock = 100 ∧
      site.restart = .idle ∧ { site with restart := .pending }.restart ≠ .idle ∧
      ((after (.enrolmentDeadline 3) site).dev 3).life = .vacant ∧
      ((after (.enrolmentDeadline 3) { site with runClock := 99 }).dev 3).life = .enrolling := by decide +kernel

/-- A Repeater that times out while a restart is pending flags the entry whose learned route named it (R11, R170). -/
theorem test_time_out_of_repeater :
    let s := { routes.setDev 3 { fresh with kind := .repeater, relay := 3 } with restart := .pending }
    ((after (.enrolmentDeadline 3) s).dev 0).outstanding = true ∧
      ((after (.enrolmentDeadline 3) s).dev 0).routes.second = none ∧
      ((after (.enrolmentDeadline 3) s).dev 1).outstanding = false := by decide +kernel

/-- A held part with two images of the given write numbers. -/
def twoBanks (a b : BitVec 16) : State :=
  { State.reset with store := { bank0 := { image with number := a }.sealed, bank1 := { image with number := b }.sealed } }

/-- The selection of a held part is that of its store. -/
theorem selects (x : Store) : (after .startUp { State.reset with store := x }).store.current = x.select := rfl

/-- The newer image: the other's number plus 1 wraps at 65535; and one valid bank of two (R171). -/
theorem witness_HeldPartSelectsNewerImage :
    (State.reset.phase = .held ∧ site.phase ≠ .held ∧ State.reset.store.bank0.image = none) ∧
      (twoBanks 4 5).store.bank0.image = some { image with number := 4 } ∧
      (twoBanks 4 5).store.bank1.image = some { image with number := 5 } ∧
      (after .startUp (twoBanks 4 5)).store.current = some .one ∧
      (after .startUp (twoBanks 0 65535)).store.current = some .zero ∧
      (after .startUp { State.reset with store := { bank1 := image.sealed } }).store.current = some .one ∧
      (after .startUp { State.reset with store := { bank0 := image.sealed } }).store.current = some .zero := by
  refine ⟨by decide +kernel, Image.sealed_image _, Image.sealed_image _, ?_, ?_, ?_, ?_⟩ <;>
    simp [twoBanks, selects, Store.select, zeroIsNewer]

/-- A bank whose CRC does not agree gives no image (R167). -/
theorem test_bad_crc (x : BitVec 16) (h : x ≠ image.crc) : (Bank.holds image x).image = none := by
  simp [Bank.image, h]

theorem witness_InterruptedWriteKeepsImage : waiting.phase = .running ∧ waiting.store.inForce = some image :=
  ⟨rfl, waiting_inForce⟩

/-- An image of one granted entry in each of cells 0 and 1, and the part probing with it, cells 0 and 2 answered. -/
def twoGranted : Image :=
  { image with
    roster := (image.roster.set 0 (some { entry with granted := true, pinFirst := some 3 })).set 50
      (some { entry with identity := 0x21, granted := true }) }
def probing : State :=
  { State.reset with
    phase := .probing #v[true, false, true, false]
    store := { current := some .zero, invalid := false, bank0 := twoGranted.sealed } }

/-- What PROBE_TIMEOUT leaves of it: the working state restored from that image. -/
def started : State :=
  allCells.foldl State.requestBeacon
    (allCells.foldl State.prepareSlots (probing.restoredFrom twoGranted #v[true, false, true, false] true))

theorem probing_inForce : probing.store.inForce = some twoGranted := Image.sealed_image twoGranted

theorem probing_starts : after (.probeTimeout true) probing = started := by
  show allCells.foldl State.requestBeacon (allCells.foldl State.prepareSlots
    (probing.restoredFrom (probing.store.inForce.getD defaultImage) #v[true, false, true, false] true)) = _
  rw [probing_inForce]
  rfl

theorem witness_StartUpRestoresImage :
    probing.store.inForce = some twoGranted ∧ after (.probeTimeout true) probing = started ∧
      probing.phase = .probing #v[true, false, true, false] ∧ (started.dev 0).life = .calibrating ∧
      (started.dev 0).faults.unsupervised = false ∧ (started.dev 50).faults.unsupervised = true ∧
      (started.cell 1).state = .absent := ⟨probing_inForce, probing_starts, by decide +kernel⟩

/-- The other case of that statement: no bank is valid at the first start-up, and the defaults are taken (R171). -/
theorem witness_StartUpTakesDefaults :
    (after .startUp State.reset).phase = .probing (Vector.replicate 4 false) ∧
      (after .startUp State.reset).store.inForce = none ∧ defaultImage.roster = Vector.replicate 192 none ∧
      defaultImage.zones = Vector.replicate 32 {} ∧ defaultImage.channels = #v[3, 10, 17, 24] ∧
      defaultImage.site = {} := by
  refine ⟨rfl, by decide +kernel, rfl, by decide +kernel, by decide +kernel, by decide +kernel⟩

/-- Cells 0 and 2 store channel 3: cell 2 takes the lowest free channel, 0 (R172). -/
theorem test_channels_settled :
    settledChannels #v[3, 10, 3, 24] #v[true, true, true, false] = #v[3, 10, 0, 24] := by decide +kernel

/-! ## Frames and bytes -/

theorem test_crc_check_value : crc16 [0x31, 0x32, 0x33, 0x34, 0x35, 0x36, 0x37, 0x38, 0x39] = 0x29B1 := by decide +kernel

/-- The part with Link A's receiver in a state, and with four responses held. -/
def receiving (r : Receiver) : State := { site with portA := { rx := r } }
def fourHeld : State :=
  { site with portA := { responses := List.replicate 4 { tag := 1, reply := { result := .done } } } }

theorem witness_ReceiverTakesBytes :
    site.phase = .running ∧ (site.port .A).rx = .hunting ∧
      (after (.frameByteReceived .A false 0xC3) site).portA.rx = .length ∧
      (after (.frameByteReceived .A false 2) (receiving .length)).portA.rx = .hunting ∧
      (after (.frameByteReceived .A false 3) (receiving .length)).portA.rx = .body 3 [] ∧
      (after (.frameByteReceived .A false 60) (receiving .length)).portA.rx = .body 60 [] ∧
      (after (.frameByteReceived .A false 61) (receiving .length)).portA.rx = .hunting ∧
      (after (.frameByteReceived .A false 0xC3) (receiving (.body 3 [1, 2]))).portA.rx = .check 3 [1, 2, 0xC3] none ∧
      (after (.frameByteReceived .A false 9) (receiving (.check 3 [1, 2, 3] none))).portA.rx =
        .check 3 [1, 2, 3] (some 9) ∧
      (9 : Byte) ++ (9 : Byte) ≠ frameCrc 3 [1, 2, 3] ∧ 4 ≤ (fourHeld.port hA.link).responses.length ∧
      (after (.responseWhollySent .A) fourHeld).portA.responses.length = 3 := by decide +kernel

theorem witness_FrameBytesTakeTheFrame :
    site.phase = .running ∧ (site.port hA.link).rx = .hunting ∧ (List.replicate 57 (0 : Byte)).length ≤ maxOperands ∧
      said .A ((commandFrame hA 0x01 []).foldl (fun t b => after (.frameByteReceived .A false b) t) site) =
        some (.done, 0) := by decide +kernel

/-- Read Device carries 89 bytes in its layout (R161, section 10.3). -/
theorem test_read_device_length : (site.deviceData 0).length = 89 := by decide +kernel

/-- Read Cell carries 60 bytes: 6 before the 48 slots, 4 counters, the phase and the cycle count (R164, R174). -/
theorem test_read_cell_length : (site.cellData 0).length = 60 := by decide +kernel

/-! ## Laws -/

/-- The premises of the law statements hold at reset; the transfer state meets the roster law as well. -/
theorem witness_StepKeepsEventStoreLaw : faultWarning.storeSound := by
  refine ⟨by decide, ?_⟩
  intro e he
  fin_cases he <;> exact ⟨rfl, fun _ => rfl, fun h => by cases h⟩

theorem witness_StepKeepsZoneLaws : alerted.zonesSound := by
  unfold State.zonesSound Zone.sound
  decide +kernel

theorem witness_StepKeepsSupervisionLaw : site.supervisionSound := by
  unfold State.supervisionSound
  decide +kernel

end Sys2Proof.Tests
end

/-! ## Finding records, and peeling checked computations -/

namespace Sys2Proof.Machine

variable {s t u : State}

theorem State.findDev_eq_none {p : DevIx → Device → Bool} :
    s.findDev p = none ↔ ∀ i, p i (s.dev i) = false := by
  simp [State.findDev, List.find?_eq_none, allDevs]

theorem State.findDev_some {p : DevIx → Device → Bool} {i : DevIx} (h : s.findDev p = some i) :
    p i (s.dev i) = true := List.find?_some (p := fun i => p i (s.dev i)) h

theorem State.findDev_isSome {p : DevIx → Device → Bool} :
    (s.findDev p).isSome = true ↔ ∃ i, p i (s.dev i) = true := by
  simp [State.findDev, allDevs]

theorem mem_allDevs (i : DevIx) : i ∈ allDevs := List.mem_finRange i

/-- A computation in sequence answers when its first part answers and the rest answers from there. -/
theorem bind_eq_ok_iff {ε α β : Type} {x : Except ε α} {f : α → Except ε β} {b : β} :
    (x >>= f) = .ok b ↔ ∃ a, x = .ok a ∧ f a = .ok b := by
  cases x with
  | error e => exact ⟨fun h => (by cases h), fun ⟨_, h, _⟩ => (by cases h)⟩
  | ok a => exact ⟨fun h => ⟨a, rfl, h⟩, fun ⟨_, h, h'⟩ => by cases h; exact h'⟩

@[simp] theorem refuse_ne_ok {α : Type} {r : Result} {v : Nat} {a : α} : refuse r v ≠ .ok a := nofun

@[simp] theorem noChange_ne_ok {α : Type} {v : Nat} {data : List Byte} {a : α} : noChange v data ≠ .ok a := nofun

/-- A check passes exactly when its condition holds. -/
@[simp] theorem check_eq_ok {b : Bool} {r : Result} {v : Nat} {a : Unit} : check b r v = .ok a ↔ b = true := by
  cases b <;> simp [check]

/-! ## The branches of a taken frame (R150 to R157) -/

/-- A link takes a frame on to its command when no restart is pending and it executes nothing (R152, R166). -/
theorem State.taken_busyWith {h : FrameHead} :
    (s.taken h).busyWith h.link = none ↔ s.restart = .idle ∧ (s.port h.link).executing = none := by
  obtain ⟨l, key, tag, level⟩ := h
  by_cases hr : s.restart = .idle <;> cases l <;>
    simp [State.busyWith, State.taken, State.frameTakenOn, State.hunt, State.port, State.setPort, hr]

/-- What the arrival of a frame does: it is discarded, answered BUSY, or carried on to its command. -/
theorem State.onFrame_cases (s : State) (h : FrameHead) (f : State → State) :
    s.onFrame h f = s.hunt h.link ∨ (∃ r, s.onFrame h f = (s.taken h).reply h r) ∨
      (s.restart = .idle ∧ (s.port h.link).executing = none ∧ (s.port h.link).responses.length < 4 ∧
        s.onFrame h f = f (s.taken h)) := by
  have hunted : ((s.hunt h.link).port h.link).responses = (s.port h.link).responses := by simp [State.hunt]
  by_cases full : 4 ≤ (s.port h.link).responses.length
  · exact .inl (by simp only [State.onFrame, hunted, full, if_true])
  · cases hb : (s.taken h).busyWith h.link with
    | none =>
      obtain ⟨hr, he⟩ := State.taken_busyWith.mp hb
      exact .inr (.inr ⟨hr, he, by omega, s.onFrame_of_ready f hr he (by simpa [State.answers] using full)⟩)
    | some c =>
      have hb' : ((s.hunt h.link).frameTakenOn h).busyWith h.link = some c := hb
      exact .inr (.inl ⟨{ result := .busy, value := c.code.toNat }, by
        simp only [State.onFrame, hunted, full, if_false, hb', State.taken]⟩)

/-- The link checks pass exactly when the operand count is right and the claimed level lies within the grant and meets
the requirement. -/
theorem linkChecks_eq_ok {h : FrameHead} {c : Command} {n : Nat} :
    linkChecks h c n = .ok () ↔
      n = c.operands ∧ h.level.toNat ≤ h.link.grant h.key ∧ c.level h.link ≤ h.level.toNat := by
  simp [linkChecks, bind_eq_ok_iff]

/-- What a command frame can leave: nothing changed, a reply alone, or the command's effect and its reply. -/
theorem State.command_cases (s : State) (h : FrameHead) (c : Command) (ops : List Byte)
    (body : State → Except Reply (Reply × State)) :
    s.command h c ops body = s ∨ s.command h c ops body = s.hunt h.link ∨
      (∃ r, s.command h c ops body = (s.taken h).reply h r) ∨
      (s.takes h c ∧ ∃ r t, body (s.taken h) = .ok (r, t) ∧ s.command h c ops body = t.reply h r) := by
  simp only [State.command, State.whenRunning]
  split
  · next hp =>
    rcases s.onFrame_cases h _ with e | ⟨r, e⟩ | ⟨hr, he, hn, e⟩
    · exact .inr (.inl e)
    · exact .inr (.inr (.inl ⟨r, e⟩))
    · rw [e]
      split
      · next r _ => exact .inr (.inr (.inl ⟨r, rfl⟩))
      · next hl =>
        obtain ⟨-, hg, hl⟩ := linkChecks_eq_ok.mp hl
        split
        · next r _ => exact .inr (.inr (.inl ⟨r, rfl⟩))
        · next r t hb => exact .inr (.inr (.inr ⟨⟨hp, hr, he, hn, hg, hl⟩, r, t, hb, rfl⟩))
  · exact .inl rfl

/-- What the frame of a writing command can leave: nothing changed, a reply alone, or its write requested. -/
theorem State.writeCommand_cases (s : State) (h : FrameHead) (c : Command) (ops : List Byte)
    (body : State → Except Reply CommandWrite) :
    s.writeCommand h c ops body = s ∨ s.writeCommand h c ops body = s.hunt h.link ∨
      (∃ r, s.writeCommand h c ops body = (s.taken h).reply h r) ∨
      (s.takes h c ∧ ∃ w, body (s.taken h) = .ok w ∧ s.writeCommand h c ops body =
        ((s.taken h).setPort h.link { (s.taken h).port h.link with executing := some (c, h.tag) }).requestWrite
          (.command w)) := by
  simp only [State.writeCommand, State.whenRunning]
  split
  · next hp =>
    rcases s.onFrame_cases h _ with e | ⟨r, e⟩ | ⟨hr, he, hn, e⟩
    · exact .inr (.inl e)
    · exact .inr (.inr (.inl ⟨r, e⟩))
    · rw [e]
      split
      · next r _ => exact .inr (.inr (.inl ⟨r, rfl⟩))
      · next hl =>
        obtain ⟨-, hg, hl⟩ := linkChecks_eq_ok.mp hl
        split
        · next r _ => exact .inr (.inr (.inl ⟨r, rfl⟩))
        · next w hb => exact .inr (.inr (.inr ⟨⟨hp, hr, he, hn, hg, hl⟩, w, hb, rfl⟩))
  · exact .inl rfl

/-- A command of level 3 is taken on Link S alone (R154). -/
theorem State.takes.link_S {h : FrameHead} {c : Command} (ht : s.takes h c) (hc : c.level h.link = 3) :
    h.link = .S := by
  obtain ⟨-, -, -, -, hg, hl⟩ := ht
  cases e : h.link with
  | S => rfl
  | A => simp only [e, Link.grant] at hg hl hc; omega
  | B => simp only [e, Link.grant] at hg hl hc; omega

end Sys2Proof.Machine

/-! ## The roster law kept by a step that gives no slot a new claim -/

namespace Sys2Proof.Machine

variable {s t u : State} {d e : Device} {m n : Nat}

/-- A record that replaces another without making a Vacant index occupied or claiming a slot that was not claimed, and
that is sound when the other was. -/
structure Device.kept (m n : Nat) (d e : Device) : Prop where
  vacant : d.life = .vacant → e.life = .vacant
  claims : ∀ i, e.claims i → d.claims i
  sound : d.sound m → e.sound n

theorem Device.kept_refl (d : Device) : Device.kept m m d d := ⟨id, fun _ => id, id⟩

theorem Device.kept.trans {m n k : Nat} {d e f : Device} (h : Device.kept m n d e) (h' : Device.kept n k e f) :
    Device.kept m k d f :=
  ⟨h'.vacant ∘ h.vacant, fun i => h.claims i ∘ h'.claims i, h'.sound ∘ h.sound⟩

/-- Two records with the same occupation and the same slots: what an evaluation, a frame or a disablement leaves. -/
structure Device.alike (d e : Device) : Prop where
  vacant : e.life = .vacant ↔ d.life = .vacant
  enrolling : e.life = .enrolling ↔ d.life = .enrolling
  move : e.move = d.move
  shadow : e.shadow = d.shadow
  deadline : e.deadline = d.deadline
  missCount : e.missCount ≤ d.missCount

theorem Device.alike_refl (d : Device) : d.alike d := ⟨.rfl, .rfl, rfl, rfl, rfl, le_rfl⟩

theorem Device.alike.trans {f : Device} (h : d.alike e) (h' : e.alike f) : d.alike f :=
  ⟨h'.vacant.trans h.vacant, h'.enrolling.trans h.enrolling, h'.move.trans h.move, h'.shadow.trans h.shadow,
    h'.deadline.trans h.deadline, h'.missCount.trans h.missCount⟩

/-- An entry owns its slot when it is neither Vacant nor Enrolling (R1). -/
theorem Life.owns_iff {l : Life} : l.owns = true ↔ l ≠ .vacant ∧ l ≠ .enrolling := by cases l <;> simp [Life.owns]

theorem Life.ne_vacant_of_owns {l : Life} (h : l.owns = true) : l ≠ .vacant := (Life.owns_iff.mp h).1

/-- Claims follow from the shadow slot and the move. -/
theorem Device.claims_congr (hm : e.move = d.move) (hs : e.shadow = d.shadow) (i : DevIx) :
    e.claims i ↔ d.claims i := by simp only [Device.claims, Device.movesTo, hm, hs]

theorem Device.claims_iff {i : DevIx} :
    d.claims i ↔ d.shadow = some i ∨ ∃ m, d.move = some m ∧ m.target = i := by
  unfold Device.claims Device.movesTo
  cases d.move <;> simp

/-- A record that is present, or whose absence is no sound record, stays kept by one alike. -/
theorem Device.alike.kept (h : d.alike e) (hv : d.sound m → d.life ≠ .vacant) : Device.kept m m d e where
  vacant := h.vacant.mpr
  claims i := (Device.claims_congr h.move h.shadow i).mp
  sound hd := by
    have present := hv hd
    obtain ⟨-, hdl, hmv, hsh, hmc⟩ := hd
    have owns : e.life.owns = d.life.owns := Bool.eq_iff_iff.mpr (by
      rw [Life.owns_iff, Life.owns_iff]; exact and_congr (not_congr h.vacant) (not_congr h.enrolling))
    refine ⟨fun hev => absurd (h.vacant.mp hev) present, ?_, ?_, ?_, h.missCount.trans hmc⟩
    · rw [h.deadline, h.enrolling]; exact hdl
    · rw [h.move, h.shadow, owns]; exact hmv
    · rw [h.shadow, owns]; exact hsh

theorem Device.alike.kept_present (h : d.alike e) (hv : d.life ≠ .vacant) : Device.kept m m d e := h.kept fun _ => hv

/-- The store-outstanding flag is no part of what a record holds (R3, R4). -/
theorem Device.sound_outstanding (v : Bool) : ({ d with outstanding := v } : Device).sound m ↔ d.sound m := by
  have vacated : ({ d with outstanding := v } : Device) = ({ d with outstanding := v } : Device).vacated ↔
      d = d.vacated := by
    obtain ⟨⟩ := d
    simp [Device.vacated]
  simp only [Device.sound, vacated]

theorem Device.kept_outstanding (v : Bool) : Device.kept m m d { d with outstanding := v } :=
  ⟨id, fun _ h => h, (Device.sound_outstanding v).mpr⟩

/-- A vacated record is sound and claims nothing (R3). -/
theorem Device.vacated_sound (d : Device) : d.vacated.sound m := by
  simp [Device.sound, Device.vacated, Life.owns]

theorem Device.not_vacated_claims (i : DevIx) : ¬ d.vacated.claims i := by
  simp [Device.claims, Device.movesTo, Device.vacated]

theorem Device.kept_vacated : Device.kept m n d d.vacated :=
  ⟨fun _ => rfl, fun i h => absurd h (Device.not_vacated_claims i), fun _ => d.vacated_sound⟩

/-- A record that claims a slot is that of an owning entry (R2, R17). -/
theorem Device.sound.owns_of_claims (h : d.sound m) {i : DevIx} (hc : d.claims i) : d.life.owns = true := by
  obtain ⟨-, -, hm, hs, -⟩ := h
  rcases Device.claims_iff.mp hc with h | ⟨x, h, -⟩
  · exact hs (by simp [h])
  · exact (hm (by simp [h])).1

/-! ## What a step keeps of the roster -/

/-- A state whose records are kept and whose queue has the same command writes under the same executing command, or
none any more. -/
structure State.keepsRoster (s t : State) : Prop where
  devs : ∀ i, Device.kept s.site.missLimit t.site.missLimit (s.dev i) (t.dev i)
  phase : t.phase = s.phase
  queue : (t.store.commandJobs = s.store.commandJobs ∧ t.portS.executing = s.portS.executing) ∨
    t.store.commandJobs = []

theorem State.keepsRoster_refl (s : State) : s.keepsRoster s := ⟨fun i => (s.dev i).kept_refl, rfl, .inl ⟨rfl, rfl⟩⟩

theorem State.keepsRoster.trans (h : s.keepsRoster t) (h' : t.keepsRoster u) : s.keepsRoster u where
  devs i := (h.devs i).trans (h'.devs i)
  phase := h'.phase.trans h.phase
  queue := by
    rcases h'.queue with ⟨hj, he⟩ | hj
    · rcases h.queue with ⟨hj', he'⟩ | hj'
      · exact .inl ⟨hj.trans hj', he.trans he'⟩
      · exact .inr (hj.trans hj')
    · exact .inr hj

/-- An enrolment among the requests is one of the command writes. -/
theorem Store.mem_commandJobs {x : Store} {w : CommandWrite} :
    WriteJob.command w ∈ x.commandJobs ↔ WriteJob.command w ∈ x.jobs := by
  simp [Store.commandJobs, WriteJob.isCommand]

/-- An index is free when it is Vacant and no device claims it, in a roster of sound records (R1). -/
theorem State.isFree_iff (h : s.devicesSound) (i : DevIx) :
    s.isFree i = true ↔ (s.dev i).life = .vacant ∧ ∀ k, ¬ (s.dev k).claims i := by
  simp only [State.isFree, Bool.and_eq_true, beq_iff_eq, Option.isNone_iff_eq_none, State.shadowHolder,
    State.moverTo, State.findDev_eq_none, Device.claims, not_or, and_assoc]
  refine and_congr_right fun _ =>
    ⟨fun ⟨hs, hm⟩ k => ⟨fun hk => ?_, by simp [hm k]⟩, fun hk => ⟨fun k => ?_, fun k => ?_⟩⟩
  · have owns := (h k).owns_of_claims (.inl hk)
    have := hs k
    simp [Device.shadows, owns, hk] at this
  · simp [Device.shadows, (hk k).1]
  · simpa using (hk k).2

/-- A free index stays free while nothing claims it and it is not occupied. -/
theorem State.isFree_of_kept (hs : s.devicesSound) (ht : t.devicesSound)
    (h : ∀ k, Device.kept m n (s.dev k) (t.dev k)) {i : DevIx} (hf : s.isFree i = true) : t.isFree i = true := by
  obtain ⟨hv, hc⟩ := (State.isFree_iff hs i).mp hf
  exact (State.isFree_iff ht i).mpr ⟨(h i).vacant hv, fun k hk => hc k ((h k).claims i hk)⟩

/-- The slot law is kept when no record claims a slot it did not claim. -/
theorem State.slotsSound_of_kept (hs : s.slotsSound) (h : ∀ k, Device.kept m n (s.dev k) (t.dev k)) :
    t.slotsSound := by
  intro i j hj
  obtain ⟨hv, hu⟩ := hs i j ((h j).claims i hj)
  exact ⟨(h i).vacant hv, fun k hk => hu k ((h k).claims i hk)⟩

/-- The queue law of a running part whose store has no command write. -/
theorem State.queueSound_of_none (hp : s.phase = .running) (h : s.store.commandJobs = []) : s.queueSound := by
  refine ⟨by simp [h], fun hne => absurd h hne, fun i e he => ?_, fun hne => absurd hp hne⟩
  rw [← Store.mem_commandJobs, h] at he
  cases he

/-- A step of a running part that keeps its roster keeps the roster law. -/
theorem State.keepsRoster.rosterSound (h : s.keepsRoster t) (hp : s.phase = .running) (hs : s.rosterSound) :
    t.rosterSound := by
  obtain ⟨hd, hslots, hone, hexec, hfree, -⟩ := hs
  have hd' : t.devicesSound := fun i => (h.devs i).sound (hd i)
  have hp' : t.phase = .running := h.phase.trans hp
  refine ⟨hd', State.slotsSound_of_kept hslots h.devs, ?_⟩
  rcases h.queue with ⟨hj, he⟩ | hj
  · refine ⟨hj ▸ hone, fun hne => he ▸ hexec (hj ▸ hne), fun i e hie => ?_, fun hne => absurd hp' hne⟩
    rw [← Store.mem_commandJobs, hj, Store.mem_commandJobs] at hie
    exact State.isFree_of_kept hd hd' h.devs (hfree i e hie)
  · exact State.queueSound_of_none hp' hj

/-- A step that leaves the records, the site, the phase, the store and the command that Link S executes keeps the
roster. -/
theorem State.keepsRoster_of_eq (hr : t.roster = s.roster) (hsite : t.site = s.site) (hp : t.phase = s.phase)
    (hst : t.store = s.store) (he : t.portS.executing = s.portS.executing) : s.keepsRoster t :=
  ⟨fun i => by simp only [State.dev, hr, hsite]; exact Device.kept_refl _, hp, .inl ⟨by rw [hst], he⟩⟩

theorem State.keepsRoster_setDev {i : DevIx} (h : Device.kept s.site.missLimit s.site.missLimit (s.dev i) d) :
    s.keepsRoster (s.setDev i d) :=
  ⟨fun k => by
    rw [State.dev_setDev]
    split
    · next e => subst e; exact h
    · exact Device.kept_refl _, rfl, .inl ⟨rfl, rfl⟩⟩

theorem State.keepsRoster_mapDevs {f : DevIx → Device → Device}
    (h : ∀ i, Device.kept s.site.missLimit s.site.missLimit (s.dev i) (f i (s.dev i))) :
    s.keepsRoster (s.mapDevs f) :=
  ⟨fun i => by simpa using h i, by simp, .inl (by simp)⟩

theorem State.keepsRoster_create (s : State) (b : EventBody) : s.keepsRoster (s.create b) :=
  State.keepsRoster_of_eq (by simp) (by simp) (by simp) (by simp) (by simp)

theorem State.keepsRoster_createAll (s : State) (bs : List EventBody) : s.keepsRoster (s.createAll bs) :=
  State.keepsRoster_of_eq (by simp) (by simp) (by simp) (by simp) (by simp)

theorem State.keepsRoster_setZone (s : State) (z : ZoneIx) (r : Zone) : s.keepsRoster (s.setZone z r) :=
  State.keepsRoster_of_eq rfl rfl rfl rfl rfl

theorem State.keepsRoster_setCell (s : State) (c : CellIx) (r : Cell) : s.keepsRoster (s.setCell c r) :=
  State.keepsRoster_of_eq rfl rfl rfl rfl rfl

theorem State.keepsRoster_setPanel (s : State) (p : Panel) (x : Delivery) : s.keepsRoster (s.setPanel p x) :=
  State.keepsRoster_of_eq (by simp) (by simp) (by simp) (by simp) (by simp)

/-- A port changed in its receiver and responses alone. -/
theorem State.keepsRoster_setPort (s : State) {l : Link} {p : Port} (h : p.executing = (s.port l).executing) :
    s.keepsRoster (s.setPort l p) :=
  State.keepsRoster_of_eq (by simp) (by simp) (by simp) (by simp) (by
    cases l with
    | A => rfl
    | B => rfl
    | S => exact h)

theorem State.keepsRoster_recompute (s : State) (z : ZoneIx) : s.keepsRoster (s.recompute z) :=
  State.keepsRoster_of_eq (by simp) (by simp) (by simp) (by simp) (by simp)

theorem State.keepsRoster_beginLatch (s : State) (i : DevIx) (a b : Nat) : s.keepsRoster (s.beginLatch i a b) :=
  State.keepsRoster_of_eq (by simp) (by simp) (by simp) (by simp) (by simp)

/-- A sequence of steps that each keep the roster keeps it. -/
theorem State.keepsRoster_foldl {α : Type} {f : State → α → State}
    (h : ∀ (u : State) a, u.keepsRoster (f u a)) (l : List α)
    (s : State) : s.keepsRoster (l.foldl f s) := by
  induction l generalizing s with
  | nil => exact s.keepsRoster_refl
  | cons a l ih => exact (h s a).trans (ih (f s a))

theorem State.keepsRoster_ite {p : Prop} [Decidable p] (ht : p → s.keepsRoster t) (hu : ¬ p → s.keepsRoster u) :
    s.keepsRoster (if p then t else u) := by
  split
  · next h => exact ht h
  · next h => exact hu h

end Sys2Proof.Machine

/-! ## What the operations keep of the roster -/

namespace Sys2Proof.Machine

variable {s t u : State} {d : Device} {m : Nat}

/-! ### Evaluations -/

/-- A change of an evaluation that leaves the occupation and the slots of its record. -/
theorem Device.alike_of_eq {e : Device} (hl : e.life = d.life) (hm : e.move = d.move) (hs : e.shadow = d.shadow)
    (hd : e.deadline = d.deadline) (hc : e.missCount = d.missCount) : d.alike e :=
  ⟨by rw [hl], by rw [hl], hm, hs, hd, hc.le⟩

theorem Eval.restore_alike {e : Eval} (h : d.alike e.d) (x : Setting) (c : Cause) : d.alike (e.restore x c).d := by
  unfold Eval.restore
  split
  · exact h.trans (Device.alike_of_eq rfl rfl rfl rfl rfl)
  · exact h

theorem Eval.fail_alike {e : Eval} (h : d.alike e.d) (x : Setting) (c : Cause) : d.alike (e.fail x c).d := by
  unfold Eval.fail
  split
  · exact h
  · exact h.trans (Device.alike_of_eq rfl rfl rfl rfl rfl)

theorem Eval.measurement_alike {e : Eval} (h : d.alike e.d) (x : Setting) (r : Byte) :
    d.alike (e.measurement x r).d := by
  refine Eval.restore_alike (Eval.restore_alike (Eval.restore_alike ?_ x _) x _) x _
  exact h.trans (Device.alike_of_eq rfl rfl rfl rfl rfl)

theorem Eval.contaminated_alike {e : Eval} (h : d.alike e.d) (x : Setting) (b limit : Nat) :
    d.alike (e.contaminated x b limit).d := by
  unfold Eval.contaminated
  split
  · exact Eval.fail_alike h x _
  · split
    · exact Eval.restore_alike h x _
    · exact h

theorem Eval.calibrate_alike {e : Eval} (h : d.alike e.d) (x : Setting) (v : Nat) :
    d.alike (e.calibrate x v).d := by
  unfold Eval.calibrate
  split
  · exact h
  · next hl =>
    have hl : e.d.life = .calibrating := not_not.mp hl
    have done : ∀ m, d.alike { e.d with life := .supervised, smoke := m } :=
      fun m => h.trans ⟨by simp [hl], by simp [hl], rfl, rfl, rfl, le_rfl⟩
    dsimp only
    split
    · exact h.trans (Device.alike_of_eq rfl rfl rfl rfl rfl)
    · split
      · exact Eval.fail_alike (done _) x _
      · exact done _

theorem Eval.drift_alike {e : Eval} (h : d.alike e.d) (x : Setting) (before : Device) (v : Nat) :
    d.alike (e.drift x before v).d := by
  unfold Eval.drift
  split
  · exact h
  · split
    · refine Eval.contaminated_alike ?_ x _ _
      exact h.trans (Device.alike_of_eq rfl rfl rfl rfl rfl)
    · exact h

theorem Eval.enterPreAlarm_alike {e : Eval} (h : d.alike e.d) (x : Setting) (level : Nat) :
    d.alike (e.enterPreAlarm x level).d := by
  refine h.trans ?_
  simp only [Eval.enterPreAlarm]
  split
  · split
    · exact Device.alike_of_eq rfl rfl rfl rfl rfl
    · exact Device.alike_of_eq rfl rfl rfl rfl rfl
  · split
    · exact Device.alike_of_eq rfl rfl rfl rfl rfl
    · exact Device.alike_of_eq rfl rfl rfl rfl rfl

theorem Eval.thresholds_alike {e : Eval} (h : d.alike e.d) (x : Setting) (a : Nat) :
    d.alike (e.thresholds x a).d := by
  unfold Eval.thresholds
  split
  · split
    · exact Eval.enterPreAlarm_alike h x a
    · exact h
  · split
    · exact h.trans (Device.alike_of_eq rfl rfl rfl rfl rfl)
    · exact h
  · exact h

theorem Eval.smokeDecide_alike {e : Eval} (h : d.alike e.d) (x : Setting) (a : Nat) :
    d.alike (e.smokeDecide x a).d := by
  refine (Eval.thresholds_alike h x a).trans ?_
  simp only [Eval.smokeDecide]
  split
  · exact Device.alike_of_eq rfl rfl rfl rfl rfl
  · exact Device.alike_of_eq rfl rfl rfl rfl rfl

theorem Eval.smoke_alike {e : Eval} (h : d.alike e.d) (x : Setting) (v : Nat) : d.alike (e.smoke x v).d := by
  have calibrated := Eval.calibrate_alike h x v
  simp only [Eval.smoke]
  split
  · exact calibrated
  · exact Eval.smokeDecide_alike (Eval.drift_alike calibrated x e.d v) x _

theorem Eval.heatPreAlarm_alike {e : Eval} (h : d.alike e.d) (x : Setting) (v : Nat) :
    d.alike (e.heatPreAlarm x v).d := by
  simp only [Eval.heatPreAlarm]
  split
  · split
    · exact Eval.enterPreAlarm_alike h x v
    · exact h
  · split
    · exact h.trans (Device.alike_of_eq rfl rfl rfl rfl rfl)
    · exact h
  · exact h

theorem Eval.heat_alike {e : Eval} (h : d.alike e.d) (x : Setting) (v : Nat) : d.alike (e.heat x v).d := by
  have rated : ∀ m, d.alike { e.d with heat := m } := fun m => h.trans (Device.alike_of_eq rfl rfl rfl rfl rfl)
  simp only [Eval.heat]
  split
  · exact rated _
  · split
    · exact (Eval.heatPreAlarm_alike (e := { e with d := { e.d with heat := _ } }) (rated _) x v).trans
        (Device.alike_of_eq rfl rfl rfl rfl rfl)
    · exact Eval.heatPreAlarm_alike (e := { e with d := { e.d with heat := _ } }) (rated _) x v

theorem Eval.callPoint_alike {e : Eval} (h : d.alike e.d) (v : Nat) : d.alike (e.callPoint v).d := by
  unfold Eval.callPoint
  split
  · exact h.trans (Device.alike_of_eq rfl rfl rfl rfl rfl)
  · exact h

/-- An evaluation leaves the occupation and the slots of its record (R67). -/
theorem evaluation_alike (x : Setting) (d : Device) (r : Byte) : d.alike (evaluation x d r).d := by
  simp only [evaluation]
  split
  · exact d.alike_refl
  · split
    · exact Device.alike_of_eq rfl rfl rfl rfl rfl
    · split
      · exact d.alike_refl
      · have measured := Eval.measurement_alike (e := { d := d }) d.alike_refl x r
        split
        · exact Eval.smoke_alike measured x _
        · exact Eval.heat_alike measured x _
        · exact Eval.callPoint_alike measured _
        · exact d.alike_refl

/-! ### Latches and clears -/

theorem Device.verifCleared_alike (d : Device) : d.alike d.verifCleared := by
  unfold Device.verifCleared
  split
  · exact Device.alike_of_eq rfl rfl rfl rfl rfl
  · exact d.alike_refl

theorem Device.latchCleared_alike (d : Device) : d.alike d.latchCleared :=
  d.verifCleared_alike.trans (Device.alike_of_eq rfl rfl rfl rfl rfl)

theorem Device.resetCleared_alike (d : Device) : d.alike d.resetCleared := by
  unfold Device.resetCleared
  split
  · exact d.latchCleared_alike
  · exact d.verifCleared_alike

/-- A member of a zone is not Vacant (R91). -/
theorem Device.memberOf.present {z : ZoneIx} (h : d.memberOf z = true) : d.life ≠ .vacant := by
  simp only [Device.memberOf, Bool.and_eq_true, bne_iff_ne] at h
  exact h.1.1

theorem State.keepsRoster_mapMembers (s : State) (z : ZoneIx) {f : Device → Device} (hf : ∀ d : Device, d.alike (f d)) :
    s.keepsRoster (s.mapMembers z f) :=
  State.keepsRoster_mapDevs fun i => by
    split
    · next h => exact (hf _).kept_present (Device.memberOf.present h)
    · exact Device.kept_refl _

theorem State.keepsRoster_takeLatch {i : DevIx} (level elapsed : Nat) (hi : (s.dev i).life ≠ .vacant) :
    s.keepsRoster (s.takeLatch i level elapsed) := by
  simp only [State.takeLatch]
  split
  · exact (s.keepsRoster_create _).trans (State.keepsRoster_setDev
      ((Device.latchCleared_alike _).kept_present (by simpa using hi)))
  · split
    · exact s.keepsRoster_create _
    · exact (s.keepsRoster_beginLatch _ _ _).trans (State.keepsRoster_recompute _ _)

theorem State.keepsRoster_takeChange (s : State) (i : DevIx) : s.keepsRoster (s.takeChange i) :=
  State.keepsRoster_ite (fun _ => s.keepsRoster_recompute _) (fun _ => s.keepsRoster_refl)

theorem State.keepsRoster_evaluate {i : DevIx} (r : Byte) (hi : (s.dev i).life ≠ .vacant) :
    s.keepsRoster (s.evaluate i r) := by
  have taken := evaluation_alike (s.setting i) (s.dev i) r
  have set := (State.keepsRoster_setDev (taken.kept_present hi)).trans (State.keepsRoster_createAll _
    (evaluation (s.setting i) (s.dev i) r).events)
  simp only [State.evaluate]
  split
  · exact set.trans (State.keepsRoster_takeLatch _ _ (by simpa [taken.vacant] using hi))
  · split
    · exact set
    · exact set.trans (State.keepsRoster_takeChange _ _)

theorem State.keepsRoster_beginKeptLatch (s : State) (i : DevIx) : s.keepsRoster (s.beginKeptLatch i) :=
  s.keepsRoster_beginLatch _ _ _

theorem State.keepsRoster_deviceCounted (s : State) (i : DevIx) : s.keepsRoster (s.deviceCounted i) :=
  State.keepsRoster_ite
    (fun _ => (State.keepsRoster_ite (fun _ => s.keepsRoster_beginKeptLatch i) (fun _ => s.keepsRoster_refl)).trans
      (State.keepsRoster_recompute _ _))
    (fun _ => s.keepsRoster_refl)

theorem State.keepsRoster_membersCounted (s : State) (z : ZoneIx) (ixs : List DevIx) :
    s.keepsRoster (s.membersCounted z ixs) :=
  (State.keepsRoster_foldl State.keepsRoster_beginKeptLatch _ s).trans (State.keepsRoster_recompute _ _)

theorem State.keepsRoster_lapse (s : State) (z : ZoneIx) : s.keepsRoster (s.lapse z) := by
  unfold State.lapse
  split
  · exact s.keepsRoster_recompute z
  · next i hi =>
    have member := State.findDev_some hi
    simp only [State.countedMember, Bool.and_eq_true] at member
    refine ((State.keepsRoster_setDev ?_).trans (State.keepsRoster_create _ _)).trans (State.keepsRoster_recompute _ _)
    refine Device.alike.kept_present ?_ (Device.memberOf.present member.1.1)
    exact (Device.latchCleared_alike _).trans (Device.alike_of_eq rfl rfl rfl rfl rfl)

/-! ### Supervision -/

theorem Eval.unmiss_alike (x : Setting) (d : Device) : d.alike (({ d := d } : Eval).unmiss x).d := by
  unfold Eval.unmiss
  split
  · next h =>
    have h : d.life = .missing := h
    have owns : d.restoredLife = .calibrating ∨ d.restoredLife = .supervised := by
      unfold Device.restoredLife; split <;> simp
    refine ⟨?_, ?_, rfl, rfl, rfl, Nat.zero_le _⟩ <;> rcases owns with e | e <;> simp [e, h]
  · exact d.alike_refl

theorem Eval.batteryClass_alike {e : Eval} (h : d.alike e.d) (x : Setting) (b : Fin 8) :
    d.alike (e.batteryClass x b).d := by
  have set : d.alike { e.d with battery := some b } := h.trans (Device.alike_of_eq rfl rfl rfl rfl rfl)
  simp only [Eval.batteryClass]
  split
  · exact Eval.fail_alike set x _
  · split
    · exact Eval.restore_alike set x _
    · exact set

theorem Device.calibratedByFrame_alike {e : Device} (h : d.alike e) : d.alike e.calibratedByFrame := by
  unfold Device.calibratedByFrame
  split
  · next hl => exact h.trans ⟨by simp [hl.1], by simp [hl.1], rfl, rfl, rfl, le_rfl⟩
  · exact h

/-- The frame of an entry leaves its occupation and its slots (R6, R5, R47). -/
theorem frameTaken_alike (x : Setting) (d : Device) (f : Sample) (arrival : Fin 8192) :
    d.alike (frameTaken x d f arrival).d := by
  have restored := Eval.unmiss_alike x d
  refine Device.calibratedByFrame_alike ?_
  split
  · exact restored.trans (Device.alike_of_eq rfl rfl rfl rfl rfl)
  · refine Eval.batteryClass_alike ?_ x _
    exact restored.trans (Device.alike_of_eq rfl rfl rfl rfl rfl)

theorem State.keepsRoster_acceptFrame {i : DevIx} (f : Sample) (arrival : Fin 8192)
    (hi : (s.dev i).life ≠ .vacant) : s.keepsRoster (s.acceptFrame i f arrival) := by
  have taken := frameTaken_alike (s.setting i) (s.dev i) f arrival
  have set := (State.keepsRoster_setDev (taken.kept_present hi)).trans (State.keepsRoster_createAll _
    (frameTaken (s.setting i) (s.dev i) f arrival).events)
  simp only [State.acceptFrame]
  split
  · exact set
  · exact set.trans (State.keepsRoster_evaluate _ (by simpa [taken.vacant] using hi))

theorem State.keepsRoster_slotClose {i : DevIx} (hi : (s.dev i).life.owns = true) : s.keepsRoster (s.slotClose i) := by
  refine (State.keepsRoster_setDev ?_).trans (State.keepsRoster_createAll _ _)
  have present := Life.ne_vacant_of_owns hi
  unfold closed
  split
  · exact Device.alike.kept_present ⟨.rfl, .rfl, rfl, rfl, rfl, Nat.zero_le _⟩ present
  · split
    · next hl =>
      dsimp only
      split
      · refine ⟨fun h => absurd h present, fun i => (Device.claims_congr rfl rfl i).mp, fun hd => ?_⟩
        obtain ⟨-, hdl, hmv, hsh, -⟩ := hd
        refine ⟨by simp, ?_, fun h => ⟨rfl, (hmv h).2⟩, fun _ => rfl, Nat.min_le_right _ _⟩
        have : (s.dev i).life ≠ .enrolling := (Life.owns_iff.mp hi).2
        simp [hdl, this]
      · refine ⟨fun h => absurd h present, fun i => (Device.claims_congr rfl rfl i).mp, fun hd => ?_⟩
        obtain ⟨-, hdl, hmv, hsh, -⟩ := hd
        exact ⟨fun h => absurd h present, hdl, hmv, hsh, Nat.min_le_right _ _⟩
    · exact Device.alike.kept_present (Device.alike_of_eq rfl rfl rfl rfl rfl) present

theorem State.keepsRoster_alignUnsupervised (s : State) (i : DevIx) : s.keepsRoster (s.alignUnsupervised i) := by
  refine (State.keepsRoster_setDev ?_).trans (State.keepsRoster_createAll _ _)
  split
  · exact Device.kept_refl _
  · next h =>
    have present : (s.dev i).life ≠ .vacant := Life.ne_vacant_of_owns (by simpa using h)
    split
    · exact (Eval.restore_alike (e := { d := s.dev i }) (Device.alike_refl _) _ _).kept_present present
    · exact (Eval.fail_alike (e := { d := s.dev i }) (Device.alike_refl _) _ _).kept_present present

theorem State.keepsRoster_cellStateChanged (s : State) (c : CellIx) : s.keepsRoster (s.cellStateChanged c) :=
  State.keepsRoster_foldl State.keepsRoster_alignUnsupervised _ s

/-- A miss count brought down to a new limit (R51). -/
theorem Device.kept_missCount {n : Nat} : Device.kept m n d { d with missCount := min d.missCount n } := by
  refine ⟨id, fun k => (Device.claims_congr rfl rfl k).mp, fun ⟨hv, hdl, hmv, hsh, _⟩ => ?_⟩
  refine ⟨fun h => ?_, hdl, hmv, hsh, Nat.min_le_right _ _⟩
  have none_missed : d.missCount = 0 := congrArg Device.missCount (hv h)
  rw [none_missed, Nat.zero_min]
  obtain ⟨⟩ := d
  cases none_missed
  exact hv h

theorem State.keepsRoster_withSite (s : State) (p : SiteParams) : s.keepsRoster (s.withSite p) where
  devs i := by
    simp only [State.withSite, State.dev_mapDevs, State.mapDevs_site]
    exact Device.kept_missCount
  phase := by simp [State.withSite]
  queue := .inl (by simp [State.withSite])

/-! ### The store -/

theorem State.keepsRoster_markOutstanding (s : State) (ixs : List DevIx) (v : Bool) :
    s.keepsRoster (s.markOutstanding ixs v) :=
  State.keepsRoster_mapDevs fun i => by
    split
    · exact Device.kept_outstanding v
    · exact Device.kept_refl _

@[simp] theorem WriteJob.isCommand_command (w : CommandWrite) : (WriteJob.command w).isCommand = true := rfl
@[simp] theorem WriteJob.isCommand_roster (ixs : List DevIx) : (WriteJob.roster ixs).isCommand = false := rfl

/-- A waiting roster request that gathers more indices is no command write (R169). -/
theorem filter_isCommand_map {f : WriteJob → WriteJob} (hc : ∀ w, f (.command w) = .command w)
    (hr : ∀ ixs, (f (.roster ixs)).isCommand = false) (waiting : List WriteJob) :
    (waiting.map f).filter WriteJob.isCommand = waiting.filter WriteJob.isCommand := by
  induction waiting with
  | nil => rfl
  | cons j js ih =>
    cases j with
    | command w => simp [List.filter_cons, hc, ih]
    | roster ixs => simpa [List.filter_cons, hr] using ih

theorem filter_isCommand_joinWaiting (waiting : List WriteJob) (j : WriteJob) :
    (joinWaiting waiting j).filter WriteJob.isCommand = (waiting ++ [j]).filter WriteJob.isCommand := by
  cases j with
  | command w => rfl
  | roster ixs =>
    simp only [joinWaiting]
    split
    · rw [filter_isCommand_map (fun _ => rfl) (fun _ => rfl)]
      simp
    · rfl

/-- A write request adds its command write, if it is one, behind those requested before (R169). -/
theorem State.requestWrite_commandJobs (s : State) (j : WriteJob) :
    (s.requestWrite j).store.commandJobs = s.store.commandJobs ++ [j].filter WriteJob.isCommand := by
  rcases s.requestWrite_cases j with ⟨ha, hw, e⟩ | e
  · rw [e, Store.commandJobs, State.startWrite_jobs]
    simp [Store.commandJobs, Store.jobs, ha, hw]
  · rw [e]
    simp only [Store.commandJobs, Store.jobs, List.filter_append, filter_isCommand_joinWaiting, List.append_assoc]

theorem State.keepsRoster_requestRoster (s : State) (ixs : List DevIx) : s.keepsRoster (s.requestRoster ixs) := by
  rcases s.requestRoster_cases ixs with ⟨-, e⟩ | ⟨-, e⟩ | ⟨-, e⟩
  · rw [e]; exact s.keepsRoster_refl
  · rw [e]
    refine ⟨fun i => ?_, by simp, .inl ⟨?_, by simp⟩⟩
    · simp only [State.dev, State.requestWrite_roster, State.requestWrite_site]
      exact Device.kept_refl _
    · rw [State.requestWrite_commandJobs]
      simp
  · rw [e]; exact s.keepsRoster_markOutstanding ixs true

theorem State.keepsRoster_retryOutstanding (s : State) : s.keepsRoster s.retryOutstanding :=
  State.keepsRoster_ite (fun _ => s.keepsRoster_requestRoster _) (fun _ => s.keepsRoster_refl)

/-- The start of the oldest waiting request leaves the requests as they are (R169). -/
theorem State.keepsRoster_startWaiting (s : State) : s.keepsRoster s.startWaiting := by
  unfold State.startWaiting
  split
  · next j js ha hw =>
    refine ⟨fun i => Device.kept_refl _, rfl, .inl ⟨?_, rfl⟩⟩
    rw [Store.commandJobs, State.startWrite_jobs]
    simp [Store.commandJobs, Store.jobs, ha, hw]
  · exact s.keepsRoster_refl

/-- The end of a write takes it from the requests, whatever its read-back says (R168). -/
theorem State.endWrite_jobs (s : State) (v : Bool) : (s.endWrite v).store.jobs = s.store.waiting := by
  unfold State.endWrite
  split
  · next h => simp [Store.jobs, h]
  · split
    · simp only [State.markOutstanding_store]
      cases s.store.target <;> rfl
    · cases s.store.target <;> rfl

theorem State.endWrite_kept (s : State) (v : Bool) (i : DevIx) : Device.kept m m (s.dev i) ((s.endWrite v).dev i) := by
  obtain ⟨on, e⟩ := s.endWrite_dev v i
  rw [e]
  exact Device.kept_outstanding on

theorem State.keepsRoster_rosterWriteEnd (s : State) (v : Bool) : s.keepsRoster (s.rosterWriteEnd v) := by
  have ended : ∀ a ixs, s.store.active = some a → a.job = .roster ixs → ∀ v, s.keepsRoster (s.endWrite v) := by
    intro a ixs ha hj v
    refine ⟨fun i => by simpa using s.endWrite_kept v i, by simp, .inl ⟨?_, by simp⟩⟩
    rw [Store.commandJobs, State.endWrite_jobs]
    simp [Store.commandJobs, Store.jobs, ha, hj]
  unfold State.rosterWriteEnd
  split
  · next ha =>
    split
    · exact ended _ _ ha rfl _
    · exact (ended _ _ ha rfl _).trans (State.keepsRoster_markOutstanding _ _ _)
  · exact s.keepsRoster_refl

/-- The response of the executed command leaves Link S ready and the records and the store as they are (R152). -/
theorem State.finishCommand_same (s : State) (r : Reply) :
    (s.finishCommand r).roster = s.roster ∧ (s.finishCommand r).site = s.site ∧
      (s.finishCommand r).phase = s.phase ∧ (s.finishCommand r).store = s.store := by
  unfold State.finishCommand
  split
  · simp
  · simp only [State.answer]
    split <;> simp

/-- What the end of a command write does: nothing for another write, and else the working change or none, and the
response (R152, R168). -/
theorem State.commandWriteEnd_cases (s : State) (v : Bool) (apply : CommandWrite → Option (State → State)) :
    s.commandWriteEnd v apply = s ∨ ∃ a w f, s.store.active = some a ∧ a.job = .command w ∧ apply w = some f ∧
      (s.commandWriteEnd v apply = (f (s.endWrite true)).finishCommand { result := .done } ∨
        s.commandWriteEnd v apply = (s.endWrite false).finishCommand { result := .storeWriteFailed }) := by
  unfold State.commandWriteEnd
  split
  · next w _ _ ha =>
    split
    · exact .inl rfl
    · next f hf =>
      refine .inr ⟨_, w, f, ha, rfl, hf, ?_⟩
      split
      · exact .inl rfl
      · exact .inr rfl
  · exact .inl rfl

/-- After a command write has ended no other is requested, since there is one at most (R169). -/
theorem State.endWrite_commandJobs {a : ActiveWrite} {w : CommandWrite} (hone : s.store.commandJobs.length ≤ 1)
    (ha : s.store.active = some a) (hj : a.job = .command w) (v : Bool) : (s.endWrite v).store.commandJobs = [] := by
  rw [Store.commandJobs, State.endWrite_jobs]
  simpa [Store.commandJobs, Store.jobs, ha, hj, List.filter_cons] using hone

theorem State.keepsRoster_endWrite {a : ActiveWrite} {w : CommandWrite} (hone : s.store.commandJobs.length ≤ 1)
    (ha : s.store.active = some a) (hj : a.job = .command w) (v : Bool) : s.keepsRoster (s.endWrite v) :=
  ⟨fun i => by simpa using s.endWrite_kept v i, by simp, .inr (State.endWrite_commandJobs hone ha hj v)⟩

theorem State.keepsRoster_finishCommand (r : Reply) (h : s.store.commandJobs = []) :
    s.keepsRoster (s.finishCommand r) := by
  obtain ⟨hr, hsite, hp, hst⟩ := s.finishCommand_same r
  refine ⟨fun i => ?_, hp, .inr (by rw [hst, h])⟩
  simp only [State.dev, hr, hsite]
  exact Device.kept_refl _

theorem State.keepsRoster.commandJobs_nil (h : s.keepsRoster t) (hs : s.store.commandJobs = []) :
    t.store.commandJobs = [] := by
  rcases h.queue with ⟨e, -⟩ | e
  · rw [e, hs]
  · exact e

/-- The end of a command write whose working change keeps the records: the write leaves the requests and the command its
link (R152, R168). -/
theorem State.keepsRoster_commandWriteEnd (v : Bool) {apply : CommandWrite → Option (State → State)}
    (hone : s.store.commandJobs.length ≤ 1)
    (h : ∀ w f, apply w = some f → ∀ u : State, u.keepsRoster (f u)) :
    s.keepsRoster (s.commandWriteEnd v apply) := by
  rcases s.commandWriteEnd_cases v apply with e | ⟨a, w, f, ha, hj, hf, e | e⟩
  · rw [e]; exact s.keepsRoster_refl
  · have change := h w f hf (s.endWrite true)
    rw [e]
    exact ((State.keepsRoster_endWrite hone ha hj true).trans change).trans
      (State.keepsRoster_finishCommand _ (change.commandJobs_nil (State.endWrite_commandJobs hone ha hj true)))
  · rw [e]
    exact (State.keepsRoster_endWrite hone ha hj false).trans
      (State.keepsRoster_finishCommand _ (State.endWrite_commandJobs hone ha hj false))

end Sys2Proof.Machine

/-! ## Whom a copy is matched to (R35) -/

namespace Sys2Proof.Machine

variable {s t u : State} {d : Device} {m : Nat}

/-- An owning entry that holds a slot as its shadow slot (R1). -/
theorem Device.shadows_iff {i : DevIx} : d.shadows i = true ↔ d.life.owns = true ∧ d.shadow = some i := by
  simp [Device.shadows]

theorem Device.shadowIn_iff {c : CellIx} : d.shadowIn c = true ↔ ∃ j, d.shadow = some j ∧ homeCell j = c := by
  cases h : d.shadow <;> simp [Device.shadowIn, h]

theorem State.matchReport_home {c : CellIx} {h : Slot} {identity : BitVec 24} {i : DevIx}
    (hm : s.matchReport c h identity = some (i, .home)) :
    i = slotIndex c h ∧ (s.dev i).life.owns = true ∧ (s.dev i).identity = identity := by
  simp only [State.matchReport] at hm
  split at hm
  · next hi => cases hm; exact ⟨rfl, hi⟩
  · simp at hm

theorem State.matchReport_shadow {c : CellIx} {h : Slot} {identity : BitVec 24} {i : DevIx}
    (hm : s.matchReport c h identity = some (i, .shadow)) :
    (s.dev i).shadow = some (slotIndex c h) ∧ (s.dev i).life.owns = true ∧ (s.dev i).identity = identity := by
  simp only [State.matchReport] at hm
  split at hm
  · cases hm
  · obtain ⟨k, hk, e⟩ := Option.map_eq_some_iff.mp hm
    cases e
    have found := State.findDev_some hk
    simp only [Bool.and_eq_true, Device.shadows_iff, beq_iff_eq] at found
    exact ⟨found.1.2, found.1.1, found.2⟩

theorem State.matchReport_none {c : CellIx} {h : Slot} {identity : BitVec 24}
    (hm : s.matchReport c h identity = none) {i : DevIx} (hi : (s.dev i).identity = identity)
    (ho : (s.dev i).life.owns = true) : i ≠ slotIndex c h ∧ (s.dev i).shadow ≠ some (slotIndex c h) := by
  simp only [State.matchReport] at hm
  split at hm
  · cases hm
  · next hn =>
    have none := State.findDev_eq_none.mp (Option.map_eq_none_iff.mp hm) i
    refine ⟨fun e => hn (e ▸ ⟨ho, hi⟩), fun e => ?_⟩
    simp [Device.shadows_iff.mpr ⟨ho, e⟩, hi] at none

theorem State.matchAlarm_shadow {c : CellIx} {identity : BitVec 24} {i : DevIx}
    (hm : s.matchAlarm c identity = some (i, .shadow)) :
    (∃ j, (s.dev i).shadow = some j ∧ homeCell j = c) ∧ (s.dev i).life.owns = true ∧
      (s.dev i).identity = identity := by
  simp only [State.matchAlarm] at hm
  split at hm
  · next k hk =>
    cases hm
    have found := State.findDev_some hk
    simp only [Bool.and_eq_true, beq_iff_eq, Device.shadowIn_iff] at found
    exact ⟨found.2, found.1⟩
  · simp at hm

theorem State.matchAlarm_home {c : CellIx} {identity : BitVec 24} {i : DevIx}
    (hm : s.matchAlarm c identity = some (i, .home)) :
    homeCell i = c ∧ (s.dev i).life.owns = true ∧ (s.dev i).identity = identity := by
  simp only [State.matchAlarm] at hm
  split at hm
  · cases hm
  · obtain ⟨k, hk, e⟩ := Option.map_eq_some_iff.mp hm
    cases e
    have found := State.findDev_some hk
    simp only [Bool.and_eq_true, beq_iff_eq] at found
    exact ⟨found.2, found.1⟩

/-- No owning entry of the identity holds a shadow slot homed in the cell unless the match is one in a shadow slot. -/
theorem State.matchAlarm_no_shadow {c : CellIx} {identity : BitVec 24}
    (hm : ∀ k, s.matchAlarm c identity ≠ some (k, .shadow)) {k j : DevIx} (ho : (s.dev k).life.owns = true)
    (hi : (s.dev k).identity = identity) (hj : (s.dev k).shadow = some j) : homeCell j ≠ c := by
  intro hc
  have some_shadow : (s.findDev fun _ d => d.life.owns && d.identity == identity && d.shadowIn c).isSome = true :=
    State.findDev_isSome.mpr ⟨k, by simp [ho, hi, Device.shadowIn_iff, hj, hc]⟩
  obtain ⟨i, e⟩ := Option.isSome_iff_exists.mp some_shadow
  exact hm i (by simp only [State.matchAlarm, e])

theorem State.matchAlarm_none {c : CellIx} {identity : BitVec 24} (hm : s.matchAlarm c identity = none) {i : DevIx}
    (hi : (s.dev i).identity = identity) (ho : (s.dev i).life.owns = true) : homeCell i ≠ c := by
  simp only [State.matchAlarm] at hm
  split at hm
  · cases hm
  · have none := State.findDev_eq_none.mp (Option.map_eq_none_iff.mp hm) i
    simpa [ho, hi] using none

/-- A copy is matched to an owning entry of its identity (R35). -/
theorem State.matchCopy_owns {c : CellIx} {f : Sample} {w : Uplink} {i : DevIx} {via : SlotKind}
    (hw : w = .report f ∨ w = .alarm f) (hm : s.matchCopy c w = some (i, via)) :
    (s.dev i).life.owns = true ∧ (s.dev i).identity = f.identity := by
  rcases hw with rfl | rfl
  · simp only [State.matchCopy] at hm
    split at hm
    · cases via with
      | home => exact (State.matchReport_home hm).2
      | shadow => exact (State.matchReport_shadow hm).2
    · cases hm
  · cases via with
    | home => exact (State.matchAlarm_home hm).2
    | shadow => exact (State.matchAlarm_shadow hm).2

/-- Settles O30: each match is read off the branch of the search that made it. -/
theorem copiesMatchedToOwners : Obligations.CopiesMatchedToOwners := by
  intro s c f i
  have report : ∀ slot, s.time.slot = some slot → s.matchCopy c (.report f) = s.matchReport c slot f.identity :=
    fun slot h => by simp only [State.matchCopy, h]
  refine ⟨fun slot via hs hm => ?_, fun via hm => ?_, fun hm k j ho hi hj => ?_, fun slot hs hm hi ho => ?_,
    fun hm hi ho => ⟨State.matchAlarm_none hm hi ho, fun j hj => ?_⟩⟩
  · rw [report slot hs] at hm
    cases via with
    | home => obtain ⟨e, ho, hi⟩ := State.matchReport_home hm; exact ⟨ho, hi, e⟩
    | shadow => obtain ⟨e, ho, hi⟩ := State.matchReport_shadow hm; exact ⟨ho, hi, e⟩
  · cases via with
    | home => obtain ⟨e, ho, hi⟩ := State.matchAlarm_home hm; exact ⟨ho, hi, e⟩
    | shadow => obtain ⟨e, ho, hi⟩ := State.matchAlarm_shadow hm; exact ⟨ho, hi, e⟩
  · refine State.matchAlarm_no_shadow (fun k' e => ?_) ho hi hj
    change s.matchAlarm c f.identity = _ at hm
    rw [e] at hm
    cases hm
  · rw [report slot hs] at hm
    exact State.matchReport_none hm hi ho
  · refine State.matchAlarm_no_shadow (fun k' e => ?_) ho hi hj
    change s.matchAlarm c f.identity = _ at hm
    rw [e] at hm
    cases hm

end Sys2Proof.Machine

/-! ## What the radio steps keep of the roster -/

namespace Sys2Proof.Machine

variable {s t u : State} {d : Device} {m : Nat}

theorem State.keepsRoster_atTick (s : State) (k : Fin 8192) : s.keepsRoster (s.atTick k) :=
  State.keepsRoster_of_eq rfl rfl rfl rfl rfl

/-- A record whose routes are changed stays kept, when an empty pair stays empty or the record is present. -/
theorem Device.kept_routes {f : RoutePair → RoutePair} (h : d.life ≠ .vacant ∨ f {} = {}) :
    Device.kept m m d { d with routes := f d.routes } := by
  have alike : d.alike { d with routes := f d.routes } := Device.alike_of_eq rfl rfl rfl rfl rfl
  rcases h with h | h
  · exact alike.kept_present h
  · by_cases hv : d.life = .vacant
    · refine ⟨id, fun k => (Device.claims_congr rfl rfl k).mp, fun hs => ?_⟩
      have empty : d.routes = {} := congrArg Device.routes (hs.1 hv)
      have same : ({ d with routes := f d.routes } : Device) = d := by rw [empty, h, ← empty]
      rw [same]
      exact hs
    · exact alike.kept_present hv

/-- A shadow slot given up (R20). -/
theorem Device.kept_release : Device.kept m m d { d with shadow := none } := by
  refine ⟨id, fun i hi => ?_, fun ⟨hv, hdl, hmv, hsh, hmc⟩ => ⟨fun h => ?_, hdl, fun h => ⟨(hmv h).1, rfl⟩, nofun, hmc⟩⟩
  · rcases hi with hi | hi
    · cases hi
    · exact .inr hi
  · have h : d.life = .vacant := h
    have none_held : d.shadow = none := congrArg Device.shadow (hv h)
    have same : ({ d with shadow := none } : Device) = d := by rw [← none_held]
    rw [same]
    exact hv h

/-- A Pending move announced keeps its target (R18). -/
theorem Device.kept_announced (hd : d.life ≠ .vacant) : Device.kept m m d d.announced := by
  refine ⟨fun h => absurd h hd, fun i => ?_, fun ⟨_, hdl, hmv, hsh, hmc⟩ => ⟨fun h => absurd h hd, hdl, ?_, hsh, hmc⟩⟩
  · cases h : d.move <;> simp [Device.claims_iff, Device.announced, h]
  · simpa [Device.announced] using hmv

/-- A grant makes an Enrolling entry an owning one, which has neither move nor shadow slot yet (R9). -/
theorem Device.kept_granted (h : d.life = .enrolling) :
    Device.kept m m d { d with life := .calibrating, granted := true, deadline := none } := by
  refine ⟨by simp [h], fun i => (Device.claims_congr rfl rfl i).mp, fun ⟨_, hdl, hmv, hsh, hmc⟩ => ?_⟩
  exact ⟨nofun, by simp, fun e => ⟨rfl, (hmv e).2⟩, fun _ => rfl, hmc⟩

/-! ### Copies -/

theorem State.keepsRoster_handFrame {c : CellIx} {i : DevIx} {via : SlotKind} {f : Sample} {x : Copy}
    (hi : (s.dev i).life.owns = true) : s.keepsRoster (s.handFrame c i via f x) := by
  have present := Life.ne_vacant_of_owns hi
  have learned : s.keepsRoster (s.modDev i fun d => { d with routes := d.routes.learn f.path x.level.val }) :=
    State.keepsRoster_setDev (Device.kept_routes (f := fun y => y.learn f.path x.level.val) (.inl present))
  simp only [State.handFrame]
  split
  · exact learned
  · exact (learned.trans (State.keepsRoster_setCell _ _ _)).trans
      (State.keepsRoster_acceptFrame f _ (by simpa using present))

theorem State.keepsRoster_reportMarks (s : State) (c : CellIx) (i : DevIx) (via : SlotKind) :
    s.keepsRoster (s.reportMarks c i via) := by
  have marked : s.keepsRoster (match s.time.slot with
      | some h => s.setSlot c h .heard
      | none => s) := by
    split
    · exact s.keepsRoster_setCell _ _
    · exact s.keepsRoster_refl
  cases via with
  | home => exact marked.trans (State.keepsRoster_setDev Device.kept_release)
  | shadow => exact marked

theorem State.keepsRoster_handEnrol (s : State) (c : CellIx) (identity : BitVec 24) (kind : Byte) (p : Path) :
    s.keepsRoster (s.handEnrol c identity kind p) := by
  have counted := s.keepsRoster_setCell c (((s.cell c)) |> fun r =>
    { r with stats := { r.stats with unmatched := bump r.stats.unmatched } })
  have claimed : ∀ (u : State) (g : Option DevIx), u.keepsRoster (if (s.cell c).claim.isNone then
      u.modCell c fun r => { r with claim := some { identity := identity, kind := kind, path := p, grant := g } }
      else u) :=
    fun u g => State.keepsRoster_ite (fun _ => u.keepsRoster_setCell _ _) (fun _ => u.keepsRoster_refl)
  simp only [State.handEnrol]
  split
  · split
    · split
      · split
        · exact s.keepsRoster_setCell _ _
        · exact (counted.trans (State.keepsRoster_setCell _ _ _)).trans (State.keepsRoster_create _ _)
      · exact s.keepsRoster_refl
    · exact counted.trans (claimed _ none)
  · exact counted.trans (claimed _ none)

theorem State.keepsRoster_countOutcome (s : State) (c : CellIx) (o : CopyOutcome) :
    s.keepsRoster (s.countOutcome c o) := by
  cases o with
  | accepted => exact s.keepsRoster_refl
  | windowFailure => exact s.keepsRoster_setCell _ _
  | foreignIdentity => exact s.keepsRoster_setCell _ _
  | discarded => exact s.keepsRoster_refl

theorem State.keepsRoster_handCopy (s : State) (c : CellIx) (w : Uplink) (x : Copy) :
    s.keepsRoster (s.handCopy c w x) := by
  cases w with
  | enrol identity kind p => exact s.keepsRoster_handEnrol _ _ _ _
  | report f =>
    simp only [State.handCopy]
    split
    · next i via hm =>
      have handed := State.keepsRoster_handFrame (c := c) (via := via) (f := f) (x := x)
        (State.matchCopy_owns (.inl rfl) hm).1
      split
      · exact handed
      · exact handed.trans (State.keepsRoster_reportMarks _ _ _ _)
    · exact s.keepsRoster_refl
  | alarm f =>
    simp only [State.handCopy]
    split
    · next hm => exact State.keepsRoster_handFrame (State.matchCopy_owns (.inr rfl) hm).1
    · exact s.keepsRoster_refl

theorem State.keepsRoster_examine (s : State) (c : CellIx) (w : Uplink) (x : Copy) :
    s.keepsRoster (s.examine c w x) :=
  (State.keepsRoster_ite (fun _ => s.keepsRoster_handCopy c w x) (fun _ => s.keepsRoster_countOutcome c _)).trans
    (State.keepsRoster_setCell _ _ _)

theorem State.keepsRoster_receiveCopy (s : State) (c : CellIx) (x : Copy) : s.keepsRoster (s.receiveCopy c x) := by
  have ticked := s.keepsRoster_atTick x.taken
  simp only [State.receiveCopy]
  split
  · exact ticked
  · split
    · exact ticked.trans (State.keepsRoster_setCell _ _ _)
    · split
      · exact ticked.trans (State.keepsRoster_setCell _ _ _)
      · split
        · exact ticked
        · exact ticked.trans (State.keepsRoster_examine _ _ _ _)

/-! ### Downlinks -/

theorem State.keepsRoster_acknowledge (s : State) (c : CellIx) (f : FrameEntry) :
    s.keepsRoster (s.acknowledge c f) :=
  State.keepsRoster_ite
    (fun h => (s.keepsRoster_setCell c _).trans
      (State.keepsRoster_setDev (Device.kept_announced (Life.ne_vacant_of_owns h.1))))
    (fun _ => s.keepsRoster_refl)

theorem State.keepsRoster_granted {c : CellIx} {i : DevIx} (hi : (s.dev i).life = .enrolling) :
    s.keepsRoster (s.granted c i) :=
  ((((State.keepsRoster_setDev (Device.kept_granted hi)).trans (State.keepsRoster_requestRoster _ _)).trans
    (State.keepsRoster_create _ _)).trans (State.keepsRoster_setCell _ _ _)).trans
      (State.keepsRoster_alignUnsupervised _ _)

theorem State.keepsRoster_grantDownlink (s : State) (c : CellIx) (q : Claim) :
    s.keepsRoster (s.grantDownlink c q) := by
  unfold State.grantDownlink
  split
  · exact s.keepsRoster_refl
  · split
    · exact (s.keepsRoster_setCell c _).trans (State.keepsRoster_ite (fun h => State.keepsRoster_granted h)
        (fun _ => State.keepsRoster_refl _))
    · exact s.keepsRoster_setCell _ _

theorem State.keepsRoster_assemble (s : State) (c : CellIx) : s.keepsRoster (s.assemble c) := by
  have assembled : s.keepsRoster ((s.atTick assemblyTick).modCell c fun r => { r with assembled := true }) :=
    (s.keepsRoster_atTick _).trans (State.keepsRoster_setCell _ _ _)
  simp only [State.assemble]
  split
  · exact s.keepsRoster_refl
  · split
    · split
      · exact assembled.trans (State.keepsRoster_grantDownlink _ _ _)
      · exact assembled
    · split
      · exact assembled.trans (State.keepsRoster_acknowledge _ _ _)
      · exact assembled
    · split
      · exact assembled.trans (State.keepsRoster_acknowledge _ _ _)
      · exact assembled
    · exact assembled

/-! ### Beacons, confirms and interval ends -/

theorem State.keepsRoster_requestBeacon (s : State) (c : CellIx) : s.keepsRoster (s.requestBeacon c) :=
  State.keepsRoster_ite (fun _ => (s.keepsRoster_setCell c _).trans (State.keepsRoster_setCell _ _ _))
    (fun _ => s.keepsRoster_setCell _ _)

theorem State.keepsRoster_confirm (s : State) (c : CellIx) (x : TxName) : s.keepsRoster (s.confirm c x) :=
  State.keepsRoster_ite (fun _ => s.keepsRoster_refl) fun _ =>
    State.keepsRoster_ite (fun _ => (s.keepsRoster_setCell c _).trans (State.keepsRoster_cellStateChanged _ _))
      (fun _ => s.keepsRoster_setCell _ _)

theorem State.keepsRoster_endSuperframe (s : State) (c : CellIx) : s.keepsRoster (s.endSuperframe c) := by
  have changed : ∀ r, s.keepsRoster ((s.setCell c r).cellStateChanged c) :=
    fun r => (s.keepsRoster_setCell c r).trans (State.keepsRoster_cellStateChanged _ _)
  simp only [State.endSuperframe]
  split
  · split
    · exact s.keepsRoster_setCell _ _
    · split
      · exact s.keepsRoster_setCell _ _
      · exact changed _
  · exact changed _
  · split
    · exact changed _
    · exact s.keepsRoster_refl
  · exact s.keepsRoster_refl
  · exact s.keepsRoster_refl

theorem State.keepsRoster_superframeBoundary (s : State) : s.keepsRoster s.superframeBoundary :=
  (State.keepsRoster_foldl State.keepsRoster_endSuperframe _ s).trans
    (State.keepsRoster_foldl State.keepsRoster_requestBeacon _ _)

theorem State.keepsRoster_prepareSlots (s : State) (c : CellIx) : s.keepsRoster (s.prepareSlots c) :=
  State.keepsRoster_ite (fun _ => s.keepsRoster_refl) (fun _ => s.keepsRoster_setCell _ _)

theorem State.keepsRoster_closeSlot (s : State) (c : CellIx) (h : Slot) : s.keepsRoster (s.closeSlot c h) := by
  have marked : s.keepsRoster (if (s.cell c).slots[h] = .expecting then s.setSlot c h .missed else s) :=
    State.keepsRoster_ite (fun _ => s.keepsRoster_setCell _ _) (fun _ => s.keepsRoster_refl)
  simp only [State.closeSlot]
  split
  · exact s.keepsRoster_refl
  · split
    · next hc =>
      refine marked.trans (State.keepsRoster_slotClose ?_)
      split
      · exact hc.1
      · exact hc.1
    · exact marked

theorem State.keepsRoster_endInterval (s : State) : s.keepsRoster s.endInterval := by
  have closed : s.keepsRoster (match s.time.slot with
      | some h => allCells.foldl (fun (u : State) c => u.closeSlot c h) s
      | none => s) := by
    split
    · exact State.keepsRoster_foldl (fun u c => u.keepsRoster_closeSlot c _) _ s
    · exact s.keepsRoster_refl
  refine (closed.trans (State.keepsRoster_foldl (f := fun u c => u.modCell c Cell.newInterval)
    (fun u c => u.keepsRoster_setCell _ _) allCells _)).trans ?_
  exact State.keepsRoster_of_eq rfl rfl rfl rfl rfl

end Sys2Proof.Machine

/-! ## What commissioning, service and the timers keep of the roster -/

namespace Sys2Proof.Machine

variable {s t u : State} {d : Device} {m : Nat}

theorem State.keepsRoster_dropRelay (s : State) (i : DevIx) (p : Path) : s.keepsRoster (s.dropRelay i p) :=
  State.keepsRoster_mapDevs fun k => by
    split
    · exact Device.kept_refl _
    · exact Device.kept_routes (f := fun x => x.drop p) (.inr rfl)

theorem State.keepsRoster_vacate (s : State) (i : DevIx) : s.keepsRoster (s.setDev i (s.dev i).vacated) :=
  State.keepsRoster_setDev Device.kept_vacated

theorem State.keepsRoster_removed (s : State) (i : DevIx) : s.keepsRoster (s.removed i) := by
  have vacated := s.keepsRoster_vacate i
  simp only [State.removed]
  split
  · exact (vacated.trans (State.keepsRoster_dropRelay _ _ _)).trans (State.keepsRoster_create _ _)
  · exact (vacated.trans (State.keepsRoster_create _ _)).trans (State.keepsRoster_recompute _ _)

theorem State.keepsRoster_timeOut (s : State) (i : DevIx) : s.keepsRoster (s.timeOut i) := by
  have vacated := s.keepsRoster_vacate i
  refine State.keepsRoster.trans (State.keepsRoster.trans ?_ (State.keepsRoster_requestRoster _ _))
    (State.keepsRoster_create _ _)
  split
  · exact vacated.trans (State.keepsRoster_dropRelay _ _ _)
  · exact vacated

/-- The holder of an identity is not Vacant (R7). -/
theorem State.holder_some {identity : BitVec 24} {i : DevIx} (h : s.holder identity = some i) :
    (s.dev i).life ≠ .vacant ∧ (s.dev i).identity = identity := by
  simpa using State.findDev_some h

/-- The record that a command was about is not Vacant where it stands (R14, R59). -/
theorem State.follow_some {i j : DevIx} {identity : BitVec 24} (h : s.follow i identity = some j) :
    (s.dev j).life ≠ .vacant ∧ (s.dev j).identity = identity := by
  unfold State.follow at h
  split at h
  · next hi => cases h; exact hi
  · exact State.holder_some h

theorem State.keepsRoster_removedWrite (s : State) (i : DevIx) (identity : BitVec 24) :
    s.keepsRoster (s.removedWrite i identity) := by
  unfold State.removedWrite
  split
  · exact s.keepsRoster_removed _
  · exact s.keepsRoster_refl

theorem State.keepsRoster_routesWrite (s : State) (i : DevIx) (identity : BitVec 24) (f : RoutePair → RoutePair) :
    s.keepsRoster (s.routesWrite i identity f) := by
  unfold State.routesWrite
  split
  · exact s.keepsRoster_refl
  · next j hj =>
    have routed : s.keepsRoster (s.modDev j fun d => { d with routes := f d.routes }) :=
      State.keepsRoster_setDev (Device.kept_routes (.inl (State.follow_some hj).1))
    exact State.keepsRoster_ite (fun _ => routed) (fun _ => routed.trans (State.keepsRoster_markOutstanding _ _ _))

/-- The baseline brought within its limit: a record without one, a Vacant one among them, stays (R77, R93). -/
theorem State.keepsRoster_limitMember (s : State) (i : DevIx) : s.keepsRoster (s.limitMember i) := by
  unfold State.limitMember
  split
  · exact s.keepsRoster_refl
  · next b hb =>
    have present : (s.dev i).sound s.site.missLimit → (s.dev i).life ≠ .vacant := by
      intro hs hv
      rw [hs.1 hv] at hb
      cases hb
    have limited : ∀ x : SmokeState, (s.dev i).alike { s.dev i with smoke := x } :=
      fun x => Device.alike_of_eq rfl rfl rfl rfl rfl
    dsimp only
    split
    · refine (State.keepsRoster_setDev ?_).trans (State.keepsRoster_createAll _ _)
      exact (Eval.contaminated_alike (e := { d := { s.dev i with smoke := _ } }) (limited _) _ _ _).kept present
    · exact State.keepsRoster_setDev ((limited _).kept present)

theorem State.keepsRoster_withParams (s : State) (z : ZoneIx) (p : ZoneParams) : s.keepsRoster (s.withParams z p) := by
  have set := s.keepsRoster_setZone z { s.zone z with params := p }
  have limited : s.keepsRoster ((if p.compLimit = (s.zone z).params.compLimit then
      s.modZone z fun r => { r with params := p }
      else ((s.modZone z fun r => { r with params := p }).smokeMembers z).foldl State.limitMember
        (s.modZone z fun r => { r with params := p })).recompute z) :=
    (State.keepsRoster_ite (fun _ => set)
      (fun _ => set.trans (State.keepsRoster_foldl State.keepsRoster_limitMember _ _))).trans
        (State.keepsRoster_recompute _ _)
  exact State.keepsRoster_ite (fun _ => limited.trans (State.keepsRoster_lapse _ _)) (fun _ => limited)

/-- The working changes of the command writes other than Enrol Device keep the roster. -/
theorem removeApply_keepsRoster {w : CommandWrite} {f : State → State} (h : removeApply w = some f) (u : State) :
    u.keepsRoster (f u) := by
  unfold removeApply at h
  split at h
  · cases h; exact u.keepsRoster_removedWrite _ _
  · cases h

theorem pinApply_keepsRoster {w : CommandWrite} {f : State → State} (h : pinApply w = some f) (u : State) :
    u.keepsRoster (f u) := by
  unfold pinApply at h
  split at h
  · cases h; exact u.keepsRoster_routesWrite _ _ _
  · cases h

theorem unpinApply_keepsRoster {w : CommandWrite} {f : State → State} (h : unpinApply w = some f) (u : State) :
    u.keepsRoster (f u) := by
  unfold unpinApply at h
  split at h
  · cases h; exact u.keepsRoster_routesWrite _ _ _
  · cases h

theorem zoneApply_keepsRoster {w : CommandWrite} {f : State → State} (h : zoneApply w = some f) (u : State) :
    u.keepsRoster (f u) := by
  unfold zoneApply at h
  split at h
  · cases h; exact u.keepsRoster_withParams _ _
  · cases h

theorem siteApply_keepsRoster {w : CommandWrite} {f : State → State} (h : siteApply w = some f) (u : State) :
    u.keepsRoster (f u) := by
  unfold siteApply at h
  split at h
  · cases h; exact u.keepsRoster_withSite _
  · cases h

theorem channelApply_keepsRoster {w : CommandWrite} {f : State → State} (h : channelApply w = some f) (u : State) :
    u.keepsRoster (f u) := by
  unfold channelApply at h
  split at h
  · cases h; exact u.keepsRoster_setCell _ _
  · cases h

/-! ## The steps that give a slot a new claim or an index a device -/

/-- While Link S is ready no command write is requested (R169). -/
theorem State.rosterSound.no_command (hs : s.rosterSound) (he : s.portS.executing = none) :
    s.store.commandJobs = [] := by
  obtain ⟨-, -, -, hexec, -⟩ := hs
  by_contra hne
  simpa [he] using hexec hne

theorem StoredEntry.enrolling_sound (e : StoredEntry) (on : Bool) (k : Nat) :
    ({ e.fresh with outstanding := on, deadline := some k } : Device).sound m := by
  simp [Device.sound, StoredEntry.fresh]

theorem StoredEntry.enrolling_claims_none (e : StoredEntry) (on : Bool) (k : Nat) (i : DevIx) :
    ¬ ({ e.fresh with outstanding := on, deadline := some k } : Device).claims i := by
  simp [Device.claims_iff, StoredEntry.fresh]

/-- An enrolment at a free index keeps the roster law (R7, R8). -/
theorem State.enrolled_rosterSound {i : DevIx} (e : StoredEntry) (hp : s.phase = .running) (hs : s.rosterSound)
    (hf : s.isFree i = true) (hj : s.store.commandJobs = []) : (s.enrolled i e).rosterSound := by
  obtain ⟨hd, hslots, -⟩ := hs
  obtain ⟨-, unclaimed⟩ := (State.isFree_iff hd i).mp hf
  have claims : ∀ {k x}, ((s.enrolled i e).dev k).claims x → (s.dev k).claims x := by
    intro k x h
    simp only [State.enrolled, State.modDev_eq, State.dev_setDev] at h
    split at h
    · exact absurd h (e.enrolling_claims_none _ _ x)
    · exact h
  refine ⟨fun k => ?_, fun x y h => ?_, State.queueSound_of_none hp hj⟩
  · simp only [State.enrolled, State.modDev_eq, State.dev_setDev]
    split
    · exact e.enrolling_sound _ _
    · exact hd k
  · obtain ⟨hv, hu⟩ := hslots x y (claims h)
    have other : x ≠ i := fun hx => unclaimed y (hx ▸ claims h)
    exact ⟨by simpa [State.enrolled, State.dev_setDev, other] using hv, fun k hk => hu k (claims hk)⟩

/-- A Pending move to a free index keeps the roster law (R17). -/
theorem State.move_rosterSound {i j : DevIx} {stage : Stage} (hp : s.phase = .running) (hs : s.rosterSound)
    (hj : s.store.commandJobs = []) (hi : (s.dev i).life.owns = true) (hm : (s.dev i).move = none)
    (hsh : (s.dev i).shadow = none) (hf : s.isFree j = true) :
    (s.setDev i { s.dev i with move := some { target := j, stage := stage } }).rosterSound := by
  obtain ⟨hd, hslots, -⟩ := hs
  obtain ⟨hv, unclaimed⟩ := (State.isFree_iff hd j).mp hf
  have claims : ∀ k x, ((s.setDev i { s.dev i with move := some { target := j, stage := stage } }).dev k).claims x ↔
      (k = i ∧ x = j) ∨ (s.dev k).claims x := by
    intro k x
    rw [State.dev_setDev]
    split
    · next e => subst e; simp [Device.claims_iff, hm, hsh, eq_comm]
    · next e => simp [e]
  have life : ∀ k, ((s.setDev i { s.dev i with move := some { target := j, stage := stage } }).dev k).life =
      (s.dev k).life := by
    intro k
    rw [State.dev_setDev]
    split
    · next e => subst e; rfl
    · rfl
  refine ⟨fun k => ?_, fun x y h => ?_, State.queueSound_of_none hp hj⟩
  · rw [State.dev_setDev]
    split
    · obtain ⟨-, hdl, -, hs', hmc⟩ := hd i
      exact ⟨fun h => absurd h (Life.ne_vacant_of_owns hi), hdl, fun _ => ⟨hi, hsh⟩, hs', hmc⟩
    · exact hd k
  · rw [life]
    rcases (claims y x).mp h with ⟨rfl, rfl⟩ | old
    · refine ⟨hv, fun k hk => ?_⟩
      rcases (claims k x).mp hk with ⟨rfl, -⟩ | hk
      · rfl
      · exact absurd hk (unclaimed k)
    · obtain ⟨hxv, hu⟩ := hslots x y old
      refine ⟨hxv, fun k hk => ?_⟩
      rcases (claims k x).mp hk with ⟨-, rfl⟩ | hk
      · exact absurd old (unclaimed y)
      · exact hu k hk

/-- The record that a transfer places at its target (R19). -/
def State.movedRecord (s : State) (i j : DevIx) : Device :=
  { s.dev i with move := none, shadow := some i, outstanding := (s.dev j).outstanding }

/-- The records after a transfer, before its write and its events: the mover at its target, its old index Vacant. -/
def State.relocated (s : State) (i j : DevIx) : State := (s.setDev j (s.movedRecord i j)).setDev i (s.dev i).vacated

theorem State.transfer_eq (s : State) (i j : DevIx) : s.transfer i j =
    (((s.relocated i j).requestRoster [i, j]).create (.moveDone j i)).alignUnsupervised j := rfl

theorem State.relocated_dev (s : State) (i j k : DevIx) : (s.relocated i j).dev k =
    if k = i then (s.dev i).vacated else if k = j then s.movedRecord i j else s.dev k := by
  simp only [State.relocated, State.dev_setDev]

/-- A transfer to the target of a move keeps the records, the slots and the requests sound: the target was claimed by
the mover alone, and its old index becomes its shadow slot (R1, R19, R20). -/
theorem State.relocated_rosterSound {i j : DevIx} (hp : s.phase = .running) (hs : s.rosterSound)
    (hc : (s.dev i).claims j) : (s.relocated i j).rosterSound := by
  obtain ⟨hd, hslots, hone, hexec, hfree, -⟩ := hs
  obtain ⟨target_vacant, mover_alone⟩ := hslots j i hc
  have owns := (hd i).owns_of_claims hc
  have present := Life.ne_vacant_of_owns owns
  have unclaimed : ∀ k, ¬ (s.dev k).claims i := fun k hk => present (hslots i k hk).1
  have apart : j ≠ i := fun e => present (e ▸ target_vacant)
  have claims : ∀ k x, ((s.relocated i j).dev k).claims x → (k = j ∧ x = i) ∨ (k ≠ i ∧ k ≠ j ∧ (s.dev k).claims x) := by
    intro k x h
    rw [State.relocated_dev] at h
    split at h
    · exact absurd h (Device.not_vacated_claims x)
    · next hki =>
      split at h
      · next hkj => exact .inl ⟨hkj, by simpa [Device.claims_iff, State.movedRecord, eq_comm] using h⟩
      · next hkj => exact .inr ⟨hki, hkj, h⟩
  have vacant : ∀ x, (s.dev x).life = .vacant → (∀ k, (s.dev k).claims x → k ≠ i) →
      ((s.relocated i j).dev x).life = .vacant := by
    intro x hx hne
    rw [State.relocated_dev]
    split
    · rfl
    · split
      · next e => subst e; exact absurd rfl (hne i hc)
      · exact hx
  have sound : (s.relocated i j).devicesSound := by
    intro k
    rw [State.relocated_dev]
    split
    · exact (s.dev i).vacated_sound
    · split
      · obtain ⟨-, hdl, -, -, hmc⟩ := hd i
        exact ⟨fun h => absurd h present, hdl, nofun, fun _ => owns, hmc⟩
      · exact hd k
  refine ⟨sound, fun x y h => ?_, hone, hexec, fun x e he => ?_, fun hne => absurd hp hne⟩
  · rcases claims y x h with ⟨rfl, rfl⟩ | ⟨hyi, hyj, old⟩
    · refine ⟨by rw [State.relocated_dev, if_pos rfl]; rfl, fun k hk => ?_⟩
      rcases claims k x hk with ⟨e, -⟩ | ⟨-, -, hk⟩
      · exact e
      · exact absurd hk (unclaimed k)
    · obtain ⟨hxv, hu⟩ := hslots x y old
      refine ⟨vacant x hxv fun k hk e => hyi (hu i (e ▸ hk)).symm, fun k hk => ?_⟩
      rcases claims k x hk with ⟨-, rfl⟩ | ⟨-, -, hk⟩
      · exact absurd old (unclaimed y)
      · exact hu k hk
  · obtain ⟨hxv, hn⟩ := (State.isFree_iff hd x).mp (hfree x e he)
    refine (State.isFree_iff sound x).mpr ⟨vacant x hxv fun k hk => absurd hk (hn k), fun k hk => ?_⟩
    rcases claims k x hk with ⟨-, rfl⟩ | ⟨-, -, hk⟩
    · exact present hxv
    · exact hn k hk

theorem Device.announcedTarget_eq_some {j : DevIx} :
    d.announcedTarget = some j ↔ d.move = some { target := j, stage := .announced } := by
  unfold Device.announcedTarget
  split
  · next k h => simp [h]
  · next h => simpa using h j

@[simp] theorem State.alignUnsupervised_phase (s : State) (i : DevIx) : (s.alignUnsupervised i).phase = s.phase :=
  (s.keepsRoster_alignUnsupervised i).phase

theorem State.transfer_rosterSound {i j : DevIx} (hp : s.phase = .running) (hs : s.rosterSound)
    (hc : (s.dev i).claims j) : (s.transfer i j).rosterSound := by
  refine State.keepsRoster.rosterSound (s := s.relocated i j) ?_ hp (State.relocated_rosterSound hp hs hc)
  rw [State.transfer_eq]
  exact ((State.keepsRoster_requestRoster _ _).trans (State.keepsRoster_create _ _)).trans
    (State.keepsRoster_alignUnsupervised _ _)

theorem State.transfer_phase (s : State) (i j : DevIx) : (s.transfer i j).phase = s.phase := by
  rw [State.transfer_eq, State.alignUnsupervised_phase, State.create_phase,
    (State.keepsRoster_requestRoster _ _).phase]
  rfl

theorem State.transferAnnounced_rosterSound (i : DevIx) (hp : s.phase = .running) (hs : s.rosterSound) :
    (s.transferAnnounced i).phase = .running ∧ (s.transferAnnounced i).rosterSound := by
  unfold State.transferAnnounced
  split
  · next j hj =>
    have claimed : (s.dev i).claims j :=
      Device.claims_iff.mpr (.inr ⟨_, Device.announcedTarget_eq_some.mp hj, rfl⟩)
    exact ⟨(s.transfer_phase i j).trans hp, State.transfer_rosterSound hp hs claimed⟩
  · exact ⟨hp, hs⟩

/-- The transfers of a cycle boundary keep the roster law. -/
theorem State.transfers_rosterSound (l : List DevIx) (hp : s.phase = .running) (hs : s.rosterSound) :
    (l.foldl State.transferAnnounced s).phase = .running ∧ (l.foldl State.transferAnnounced s).rosterSound := by
  induction l generalizing s with
  | nil => exact ⟨hp, hs⟩
  | cons i l ih =>
    obtain ⟨hp', hs'⟩ := State.transferAnnounced_rosterSound i hp hs
    exact ih hp' hs'

theorem State.cycleBoundary_rosterSound (hp : s.phase = .running) (hs : s.rosterSound) :
    s.cycleBoundary.rosterSound := by
  obtain ⟨hp', hs'⟩ := State.transfers_rosterSound allDevs hp hs
  exact ((State.keepsRoster_retryOutstanding _).trans
    (State.keepsRoster_foldl State.keepsRoster_prepareSlots _ _)).rosterSound hp' hs'

end Sys2Proof.Machine

/-! ## What the commands keep of the roster -/

namespace Sys2Proof.Machine

variable {s t u : State} {h : FrameHead} {ops : List Byte} {r : Reply}

theorem State.keepsRoster_hunt (s : State) (l : Link) : s.keepsRoster (s.hunt l) :=
  s.keepsRoster_setPort rfl

theorem State.keepsRoster_frameTakenOn (s : State) (h : FrameHead) : s.keepsRoster (s.frameTakenOn h) := by
  unfold State.frameTakenOn
  split
  · exact State.keepsRoster_of_eq rfl rfl rfl rfl rfl
  · exact State.keepsRoster_of_eq rfl rfl rfl rfl rfl
  · exact State.keepsRoster_of_eq rfl rfl rfl rfl rfl

theorem State.keepsRoster_taken (s : State) (h : FrameHead) : s.keepsRoster (s.taken h) :=
  (s.keepsRoster_hunt h.link).trans (State.keepsRoster_frameTakenOn _ h)

theorem State.keepsRoster_answer (s : State) (l : Link) (tag : Byte) (r : Reply) :
    s.keepsRoster (s.answer l tag r) :=
  State.keepsRoster_ite (fun _ => s.keepsRoster_setPort rfl) (fun _ => s.keepsRoster_refl)

theorem State.keepsRoster_reply (s : State) (h : FrameHead) (r : Reply) : s.keepsRoster (s.reply h r) :=
  s.keepsRoster_answer h.link h.tag r

theorem State.keepsRoster_onFrame {f : State → State} (hf : (s.taken h).keepsRoster (f (s.taken h))) :
    s.keepsRoster (s.onFrame h f) := by
  rcases s.onFrame_cases h f with e | ⟨r, e⟩ | ⟨-, -, -, e⟩
  · rw [e]; exact s.keepsRoster_hunt _
  · rw [e]; exact (s.keepsRoster_taken h).trans (State.keepsRoster_reply _ h r)
  · rw [e]; exact (s.keepsRoster_taken h).trans hf

/-- A command whose effect keeps the roster, wherever it is carried out, keeps it. -/
theorem State.keepsRoster_command (c : Command) {body : State → Except Reply (Reply × State)}
    (hb : ∀ {u t : State} {r}, body u = .ok (r, t) → u.keepsRoster t) : s.keepsRoster (s.command h c ops body) := by
  rcases s.command_cases h c ops body with e | e | ⟨r, e⟩ | ⟨-, r, t, hok, e⟩
  · rw [e]; exact s.keepsRoster_refl
  · rw [e]; exact s.keepsRoster_hunt _
  · rw [e]; exact (s.keepsRoster_taken h).trans (State.keepsRoster_reply _ h r)
  · rw [e]; exact ((s.keepsRoster_taken h).trans (hb hok)).trans (State.keepsRoster_reply _ h r)

/-! ### The queries and the delivery commands -/

theorem answerQuery_keepsRoster {v : Nat} {data : List Byte} (e : answerQuery s v data = .ok (r, t)) :
    s.keepsRoster t := by
  cases e; exact s.keepsRoster_refl

theorem readDevice_keepsRoster (e : readDevice ops s = .ok (r, t)) : s.keepsRoster t := by
  unfold readDevice at e
  split at e
  · obtain ⟨i, -, e⟩ := bind_eq_ok_iff.mp e
    exact answerQuery_keepsRoster e
  · cases e

theorem readZone_keepsRoster (e : readZone ops s = .ok (r, t)) : s.keepsRoster t := by
  unfold readZone at e
  split at e
  · obtain ⟨z, -, e⟩ := bind_eq_ok_iff.mp e
    exact answerQuery_keepsRoster e
  · cases e

theorem readCell_keepsRoster (e : readCell ops s = .ok (r, t)) : s.keepsRoster t := by
  unfold readCell at e
  split at e
  · obtain ⟨c, -, e⟩ := bind_eq_ok_iff.mp e
    exact answerQuery_keepsRoster e
  · cases e

theorem readRoute_keepsRoster (e : readRoute ops s = .ok (r, t)) : s.keepsRoster t := by
  unfold readRoute at e
  split at e
  · obtain ⟨i, -, e⟩ := bind_eq_ok_iff.mp e
    exact answerQuery_keepsRoster e
  · cases e

theorem attach_keepsRoster (e : attach h s = .ok (r, t)) : s.keepsRoster t := by
  unfold attach at e
  split at e
  · cases e
  · split at e
    · cases e
    · cases e; exact s.keepsRoster_setPanel _ _

theorem State.keepsRoster_withEvents (s : State) (es : List Event) : s.keepsRoster { s with events := es } :=
  State.keepsRoster_of_eq rfl rfl rfl rfl rfl

theorem State.keepsRoster_detachPanel (s : State) (p : Panel) (c : DetachCause) :
    s.keepsRoster (s.detachPanel p c) := by
  have emptied : s.keepsRoster { s.setPanel p { s.panel p with attached := false, credits := {}, lost := {} } with
      events := withoutPanel s.events p } :=
    (s.keepsRoster_setPanel p _).trans (State.keepsRoster_withEvents _ _)
  exact State.keepsRoster_ite (fun _ => emptied.trans (State.keepsRoster_create _ _)) (fun _ => emptied)

theorem detach_keepsRoster (e : detach h s = .ok (r, t)) : s.keepsRoster t := by
  unfold detach at e
  split at e
  · cases e
  · split at e
    · cases e; exact s.keepsRoster_detachPanel _ _
    · cases e

theorem fetchEvent_keepsRoster (e : fetchEvent h s = .ok (r, t)) : s.keepsRoster t := by
  unfold fetchEvent at e
  split at e
  · cases e
  · dsimp only at e
    split at e
    · cases e
    · split at e
      · split at e
        · cases e
        · cases e; exact s.keepsRoster_setPanel _ _
      · split at e
        · cases e
        · cases e; exact (s.keepsRoster_setPanel _ _).trans (State.keepsRoster_withEvents _ _)

/-! ### The operator commands -/

theorem State.keepsRoster_acknowledgeBy (s : State) (l : Link) (z : ZoneIx) : s.keepsRoster (s.acknowledgeBy l z) :=
  (s.keepsRoster_setZone z _).trans (State.keepsRoster_create _ _)

theorem acknowledgeZone_keepsRoster (e : acknowledgeZone h ops s = .ok (r, t)) : s.keepsRoster t := by
  unfold acknowledgeZone at e
  split at e
  · obtain ⟨z, -, e⟩ := bind_eq_ok_iff.mp e
    obtain ⟨-, -, e⟩ := bind_eq_ok_iff.mp e
    obtain ⟨-, -, e⟩ := bind_eq_ok_iff.mp e
    obtain ⟨-, -, e⟩ := bind_eq_ok_iff.mp e
    split at e
    · cases e
    · cases e; exact s.keepsRoster_acknowledgeBy _ _
  · cases e

theorem acknowledgeAll_keepsRoster (e : acknowledgeAll h ops s = .ok (r, t)) : s.keepsRoster t := by
  unfold acknowledgeAll at e
  split at e
  · obtain ⟨-, -, e⟩ := bind_eq_ok_iff.mp e
    obtain ⟨-, -, e⟩ := bind_eq_ok_iff.mp e
    dsimp only at e
    split at e
    · cases e
    · cases e; exact State.keepsRoster_foldl (fun u z => u.keepsRoster_acknowledgeBy _ z) _ s
  · cases e

theorem State.keepsRoster_resetBy (s : State) (l : Link) (z : ZoneIx) : s.keepsRoster (s.resetBy l z) :=
  ((s.keepsRoster_mapMembers z Device.resetCleared_alike).trans (State.keepsRoster_create _ _)).trans
    (State.keepsRoster_recompute _ _)

theorem resetZone_keepsRoster (e : resetZone h ops s = .ok (r, t)) : s.keepsRoster t := by
  unfold resetZone at e
  split at e
  · obtain ⟨z, -, e⟩ := bind_eq_ok_iff.mp e
    obtain ⟨-, -, e⟩ := bind_eq_ok_iff.mp e
    obtain ⟨-, -, e⟩ := bind_eq_ok_iff.mp e
    obtain ⟨-, -, e⟩ := bind_eq_ok_iff.mp e
    obtain ⟨-, -, e⟩ := bind_eq_ok_iff.mp e
    cases e; exact s.keepsRoster_resetBy _ _
  · cases e

theorem resetAll_keepsRoster (e : resetAll h ops s = .ok (r, t)) : s.keepsRoster t := by
  unfold resetAll at e
  split at e
  · obtain ⟨-, -, e⟩ := bind_eq_ok_iff.mp e
    obtain ⟨-, -, e⟩ := bind_eq_ok_iff.mp e
    dsimp only at e
    split at e
    · cases e
    · split at e
      · cases e
      · cases e; exact State.keepsRoster_foldl (fun u z => u.keepsRoster_resetBy _ z) _ s
  · cases e

/-- The disablement commands reach an entry that is not Vacant (R112, R120). -/
theorem deviceChecks_present {b : Byte} {i : DevIx} (e : deviceChecks h b s = .ok i) : (s.dev i).life ≠ .vacant := by
  simp only [deviceChecks, bind_eq_ok_iff, State.checkPresent, check_eq_ok] at e
  obtain ⟨k, -, -, present, -, -, -, -, e⟩ := e
  cases e
  simpa using present

theorem Device.kept_disabled {m : Nat} {d : Device} (x : LinkSet) (hd : d.life ≠ .vacant) :
    Device.kept m m d { d with disabled := x } :=
  (Device.alike_of_eq rfl rfl rfl rfl rfl : d.alike { d with disabled := x }).kept_present hd

theorem State.keepsRoster_firstDisable {i : DevIx} (l : Link) (hi : (s.dev i).life ≠ .vacant) :
    s.keepsRoster (s.firstDisable l i) := by
  have disabled : s.keepsRoster ((s.modDev i fun d =>
      let d' := { d with disabled := d.disabled.add l }
      if d.cond = .fireLatched then d' else d'.verifCleared).create (.deviceDisabled i l)) := by
    refine (State.keepsRoster_setDev ?_).trans (State.keepsRoster_create _ _)
    refine Device.alike.kept_present ?_ hi
    have added : (s.dev i).alike { s.dev i with disabled := (s.dev i).disabled.add l } :=
      Device.alike_of_eq rfl rfl rfl rfl rfl
    dsimp only
    split
    · exact added
    · exact added.trans (Device.verifCleared_alike _)
  exact State.keepsRoster_ite (fun _ => disabled.trans (State.keepsRoster_recompute _ _)) (fun _ => disabled)

theorem disableDevice_keepsRoster (e : disableDevice h ops s = .ok (r, t)) : s.keepsRoster t := by
  unfold disableDevice at e
  split at e
  · obtain ⟨i, hi, e⟩ := bind_eq_ok_iff.mp e
    have present := deviceChecks_present hi
    dsimp only at e
    split at e
    · cases e
    · split at e
      · cases e; exact State.keepsRoster_firstDisable _ present
      · cases e; exact State.keepsRoster_setDev (Device.kept_disabled _ present)
  · cases e

theorem enableDevice_keepsRoster (e : enableDevice h ops s = .ok (r, t)) : s.keepsRoster t := by
  unfold enableDevice at e
  split at e
  · obtain ⟨i, hi, e⟩ := bind_eq_ok_iff.mp e
    have enabled : s.keepsRoster (s.modDev i fun d => { d with disabled := d.disabled.remove h.link }) :=
      State.keepsRoster_setDev (Device.kept_disabled _ (deviceChecks_present hi))
    dsimp only at e
    split at e
    · cases e
    · split at e
      · cases e
        exact (enabled.trans (State.keepsRoster_create _ _)).trans (State.keepsRoster_deviceCounted _ _)
      · cases e; exact enabled
  · cases e

theorem State.keepsRoster_firstDisableZone (s : State) (l : Link) (z : ZoneIx) :
    s.keepsRoster (s.firstDisableZone l z) := by
  have disabled := (s.keepsRoster_setZone z { s.zone z with disabled := (s.zone z).disabled.add l, test := none }).trans
    (State.keepsRoster_create _ (.zoneDisabled z l))
  refine State.keepsRoster.trans (State.keepsRoster.trans ?_ (State.keepsRoster_mapMembers _ z fun d => ?_))
    (State.keepsRoster_recompute _ _)
  · split
    · exact disabled.trans (State.keepsRoster_create _ _)
    · exact disabled
  · split
    · exact d.alike_refl
    · exact d.verifCleared_alike

theorem disableZone_keepsRoster (e : disableZone h ops s = .ok (r, t)) : s.keepsRoster t := by
  unfold disableZone at e
  split at e
  · obtain ⟨z, -, e⟩ := bind_eq_ok_iff.mp e
    obtain ⟨-, -, e⟩ := bind_eq_ok_iff.mp e
    dsimp only at e
    split at e
    · cases e
    · split at e
      · cases e; exact s.keepsRoster_firstDisableZone _ _
      · cases e; exact s.keepsRoster_setZone _ _
  · cases e

theorem enableZone_keepsRoster (e : enableZone h ops s = .ok (r, t)) : s.keepsRoster t := by
  unfold enableZone at e
  split at e
  · obtain ⟨z, -, e⟩ := bind_eq_ok_iff.mp e
    obtain ⟨-, -, e⟩ := bind_eq_ok_iff.mp e
    dsimp only at e
    split at e
    · cases e
    · split at e
      · cases e
        exact ((s.keepsRoster_setZone _ _).trans (State.keepsRoster_create _ _)).trans
          (State.keepsRoster_membersCounted _ _ _)
      · cases e; exact s.keepsRoster_setZone _ _
  · cases e

theorem State.keepsRoster_withZones (s : State) (zs : Vector Zone 32) : s.keepsRoster { s with zones := zs } :=
  State.keepsRoster_of_eq rfl rfl rfl rfl rfl

theorem clearDisablements_keepsRoster (e : clearDisablements s = .ok (r, t)) : s.keepsRoster t := by
  have cleared : s.keepsRoster (s.mapDevs fun _ d => { d with disabled := {} }) := by
    refine State.keepsRoster_mapDevs fun i => ?_
    by_cases hv : (s.dev i).life = .vacant
    · refine ⟨id, fun k => (Device.claims_congr rfl rfl k).mp, fun hs => ?_⟩
      have none_set : (s.dev i).disabled = {} := congrArg Device.disabled (hs.1 hv)
      rw [← none_set]
      exact hs
    · exact Device.kept_disabled _ hv
  simp only [clearDisablements] at e
  split at e
  · cases e
  · cases e
    refine State.keepsRoster.trans (cleared.trans ?_)
      (State.keepsRoster_foldl (fun u z => u.keepsRoster_membersCounted z _) _ _)
    exact (State.keepsRoster_withZones _ _).trans
      ((State.keepsRoster_createAll _ _).trans (State.keepsRoster_createAll _ _))

theorem startTest_keepsRoster (e : startTest h ops s = .ok (r, t)) : s.keepsRoster t := by
  unfold startTest at e
  split at e
  · obtain ⟨z, -, e⟩ := bind_eq_ok_iff.mp e
    obtain ⟨-, -, e⟩ := bind_eq_ok_iff.mp e
    obtain ⟨-, -, e⟩ := bind_eq_ok_iff.mp e
    split at e
    · cases e
      exact (((s.keepsRoster_setZone z _).trans (State.keepsRoster_mapMembers _ z Device.resetCleared_alike)).trans
        (State.keepsRoster_create _ _)).trans (State.keepsRoster_recompute _ _)
    · split at e
      · cases e
      · split at e
        · cases e; exact s.keepsRoster_setZone _ _
        · cases e
  · cases e

theorem State.keepsRoster_endTestOf (s : State) (z : ZoneIx) (l : Link) (c : TestEnd) :
    s.keepsRoster (s.endTestOf z l c) :=
  ((s.keepsRoster_setZone z _).trans (State.keepsRoster_create _ _)).trans (State.keepsRoster_recompute _ _)

theorem endTest_keepsRoster (e : endTest h ops s = .ok (r, t)) : s.keepsRoster t := by
  unfold endTest at e
  split at e
  · obtain ⟨z, -, e⟩ := bind_eq_ok_iff.mp e
    obtain ⟨-, -, e⟩ := bind_eq_ok_iff.mp e
    split at e
    · cases e
    · split at e
      · cases e
      · cases e; exact s.keepsRoster_endTestOf _ _ _
  · cases e

theorem selectProfile_keepsRoster (e : selectProfile h ops s = .ok (r, t)) : s.keepsRoster t := by
  unfold selectProfile at e
  split at e
  · obtain ⟨z, -, e⟩ := bind_eq_ok_iff.mp e
    obtain ⟨-, -, e⟩ := bind_eq_ok_iff.mp e
    split at e
    · cases e
    · split at e
      · cases e
      · cases e; exact (s.keepsRoster_setZone _ _).trans (State.keepsRoster_create _ _)
    · cases e; exact (s.keepsRoster_setZone _ _).trans (State.keepsRoster_create _ _)
  · cases e

theorem setTime_keepsRoster (e : setTime h ops s = .ok (r, t)) : s.keepsRoster t := by
  unfold setTime at e
  split at e
  · obtain ⟨-, -, e⟩ := bind_eq_ok_iff.mp e
    cases e
    exact State.keepsRoster_of_eq rfl rfl rfl rfl rfl
  · cases e

theorem clearCellStatistics_keepsRoster (e : clearCellStatistics ops s = .ok (r, t)) : s.keepsRoster t := by
  unfold clearCellStatistics at e
  split at e
  · obtain ⟨c, -, e⟩ := bind_eq_ok_iff.mp e
    obtain ⟨-, -, e⟩ := bind_eq_ok_iff.mp e
    split at e
    · cases e
    · cases e; exact s.keepsRoster_setCell _ _
  · cases e

/-! ### The commissioning and service commands -/

theorem stopCell_keepsRoster (e : stopCell ops s = .ok (r, t)) : s.keepsRoster t := by
  unfold stopCell at e
  split at e
  · obtain ⟨c, -, e⟩ := bind_eq_ok_iff.mp e
    obtain ⟨-, -, e⟩ := bind_eq_ok_iff.mp e
    dsimp only at e
    split at e
    · cases e; exact s.keepsRoster_setCell _ _
    · cases e
    · split at e
      · cases e; exact s.keepsRoster_setCell _ _
      · cases e
    · cases e; exact s.keepsRoster_setCell _ _
    · cases e
  · cases e

theorem startCell_keepsRoster (e : startCell ops s = .ok (r, t)) : s.keepsRoster t := by
  unfold startCell at e
  split at e
  · obtain ⟨c, -, e⟩ := bind_eq_ok_iff.mp e
    obtain ⟨-, -, e⟩ := bind_eq_ok_iff.mp e
    dsimp only at e
    split at e
    · split at e
      · cases e
      · cases e; exact s.keepsRoster_setCell _ _
    · cases e; exact s.keepsRoster_setCell _ _
    · cases e
    · cases e
    · cases e
  · cases e

/-- The cancellation of an Announced move keeps the claim on its target, as a shadow slot (R21). -/
theorem Device.kept_cancelled {m : Nat} {d : Device} {j : DevIx} {stage : Stage}
    (hd : d.life ≠ .vacant) (hm : d.move = some { target := j, stage := stage }) :
    Device.kept m m d { d with move := none, shadow := some j } := by
  refine ⟨fun hv => absurd hv hd, fun i => ?_, fun ⟨_, hdl, hmv, _, hmc⟩ => ?_⟩
  · simp only [Device.claims_iff, hm]
    rintro (e | ⟨_, e, _⟩)
    · cases e; exact .inr ⟨_, rfl, rfl⟩
    · cases e
  · exact ⟨fun hv => absurd hv hd, hdl, nofun, fun _ => (hmv (by simp [hm])).1, hmc⟩

/-- A Pending move dropped (R21). -/
theorem Device.kept_unmoved {m : Nat} {d : Device} (hd : d.life ≠ .vacant) :
    Device.kept m m d { d with move := none } := by
  refine ⟨fun hv => absurd hv hd, fun i => ?_, fun ⟨_, hdl, _, hsh, hmc⟩ => ?_⟩
  · simp only [Device.claims_iff]
    rintro (e | ⟨_, e, _⟩)
    · exact .inl e
    · cases e
  · exact ⟨fun hv => absurd hv hd, hdl, nofun, hsh, hmc⟩

theorem cancelMove_keepsRoster (e : cancelMove ops s = .ok (r, t)) : s.keepsRoster t := by
  unfold cancelMove at e
  split at e
  · obtain ⟨i, -, e⟩ := bind_eq_ok_iff.mp e
    obtain ⟨_, present, e⟩ := bind_eq_ok_iff.mp e
    have present : (s.dev i).life ≠ .vacant := by simpa [State.checkPresent] using present
    split at e
    · cases e
    · next m hm =>
      cases e
      obtain ⟨j, stage⟩ := m
      cases stage with
      | pending => exact State.keepsRoster_setDev (Device.kept_unmoved present)
      | announced =>
        exact (State.keepsRoster_setDev (Device.kept_cancelled present hm)).trans (State.keepsRoster_setCell _ _ _)
  · cases e

/-- What Move Device requires of the entry and of its target (R17). -/
theorem moveDevice_ok (e : moveDevice ops s = .ok (r, t)) : ∃ i j, (s.dev i).life.owns = true ∧
    (s.dev i).move = none ∧ (s.dev i).shadow = none ∧ s.isFree j = true ∧
      t = s.setDev i { s.dev i with move := some { target := j, stage := .pending } } := by
  unfold moveDevice at e
  split at e
  · simp only [bind_eq_ok_iff, check_eq_ok, Bool.and_eq_true, Option.isNone_iff_eq_none] at e
    obtain ⟨i, -, j, -, -, -, -, -, -, -, -, owns, -, ⟨hm, hsh⟩, -, free, e⟩ := e
    cases e
    exact ⟨i, j, owns, hm, hsh, free, rfl⟩
  · cases e

/-- What Enrol Device requires of its index (R7). -/
theorem enrolDevice_ok {w : CommandWrite} (e : enrolDevice ops s = .ok w) :
    ∃ i x, w = .enrol i x ∧ s.isFree i = true := by
  unfold enrolDevice at e
  split at e
  · simp only [bind_eq_ok_iff, check_eq_ok] at e
    obtain ⟨i, -, -, -, -, free, -, -, y, -, e⟩ := e
    cases e
    exact ⟨i, _, rfl, free⟩
  · cases e

theorem removeDevice_ok {w : CommandWrite} (e : removeDevice ops s = .ok w) :
    ∃ i identity relay, w = .remove i identity relay := by
  unfold removeDevice at e
  split at e
  · obtain ⟨i, -, e⟩ := bind_eq_ok_iff.mp e
    obtain ⟨-, -, e⟩ := bind_eq_ok_iff.mp e
    cases e
    exact ⟨_, _, _, rfl⟩
  · cases e

theorem pinRoute_ok {w : CommandWrite} (e : pinRoute ops s = .ok w) : ∃ i identity p, w = .pin i identity p := by
  unfold pinRoute at e
  split at e
  · obtain ⟨⟨i, p⟩, -, e⟩ := bind_eq_ok_iff.mp e
    obtain ⟨-, -, e⟩ := bind_eq_ok_iff.mp e
    obtain ⟨-, -, e⟩ := bind_eq_ok_iff.mp e
    split at e
    · split at e
      · cases e
      · cases e; exact ⟨_, _, _, rfl⟩
    · obtain ⟨-, -, e⟩ := bind_eq_ok_iff.mp e
      cases e
      exact ⟨_, _, _, rfl⟩
  · cases e

theorem unpinRoute_ok {w : CommandWrite} (e : unpinRoute ops s = .ok w) : ∃ i identity p, w = .unpin i identity p := by
  unfold unpinRoute at e
  split at e
  · obtain ⟨⟨i, p⟩, -, e⟩ := bind_eq_ok_iff.mp e
    dsimp only at e
    split at e
    · cases e
    · split at e
      · cases e; exact ⟨_, _, _, rfl⟩
      · cases e
  · cases e

theorem setZoneParameters_ok {w : CommandWrite} (e : setZoneParameters ops s = .ok w) : ∃ z p, w = .zone z p := by
  unfold setZoneParameters at e
  split at e
  · obtain ⟨z, -, e⟩ := bind_eq_ok_iff.mp e
    obtain ⟨p, -, e⟩ := bind_eq_ok_iff.mp e
    split at e
    · cases e
    · cases e; exact ⟨_, _, rfl⟩
  · cases e

theorem setSiteParameters_ok {w : CommandWrite} (e : setSiteParameters ops s = .ok w) : ∃ p, w = .site p := by
  unfold setSiteParameters at e
  split at e
  · dsimp only at e
    split at e
    · cases e
    · cases e; exact ⟨_, rfl⟩
  · cases e

theorem setCellChannel_ok {w : CommandWrite} (e : setCellChannel ops s = .ok w) : ∃ c ch, w = .channel c ch := by
  unfold setCellChannel at e
  split at e
  · obtain ⟨c, -, e⟩ := bind_eq_ok_iff.mp e
    obtain ⟨-, -, e⟩ := bind_eq_ok_iff.mp e
    obtain ⟨-, -, e⟩ := bind_eq_ok_iff.mp e
    split at e
    · obtain ⟨-, -, e⟩ := bind_eq_ok_iff.mp e
      split at e
      · cases e
      · cases e; exact ⟨_, _, rfl⟩
    · cases e
  · cases e

end Sys2Proof.Machine

/-! ## Every step keeps the roster law -/

namespace Sys2Proof.Machine

variable {s t u : State} {h : FrameHead} {ops : List Byte}

theorem State.whenRunning_rosterSound {f : State → State} (hs : s.rosterSound)
    (hf : s.phase = .running → (f s).rosterSound) : (s.whenRunning f).rosterSound := by
  unfold State.whenRunning
  split
  · next hp => exact hf hp
  · exact hs

theorem State.whenRunning_of_keepsRoster {f : State → State} (hs : s.rosterSound) (hf : s.keepsRoster (f s)) :
    (s.whenRunning f).rosterSound :=
  State.whenRunning_rosterSound hs fun hp => hf.rosterSound hp hs

/-! ### Commands -/

theorem State.command_of_held {c : Command} {body : State → Except Reply (Reply × State)}
    (hp : s.phase ≠ .running) : s.command h c ops body = s := by simp [State.command, State.whenRunning, hp]

theorem State.command_rosterSound {c : Command} {body : State → Except Reply (Reply × State)} (hs : s.rosterSound)
    (hb : ∀ {u t : State} {r}, body u = .ok (r, t) → u.keepsRoster t) : (s.command h c ops body).rosterSound := by
  by_cases hp : s.phase = .running
  · exact (State.keepsRoster_command c hb).rosterSound hp hs
  · rw [State.command_of_held hp]; exact hs

/-- A command taken on Link S finds no command write requested, since the link is ready (R152, R169). -/
theorem State.takes.no_command {c : Command} (ht : s.takes h c) (hc : ∀ l, c.level l = 3) (hs : s.rosterSound) :
    h.link = .S ∧ (s.taken h).store.commandJobs = [] := by
  have link := ht.link_S (hc _)
  obtain ⟨-, -, he, -⟩ := ht
  rw [link] at he
  exact ⟨link, (s.keepsRoster_taken h).commandJobs_nil (hs.no_command he)⟩

/-- A command of level 3 that takes effect on a ready Link S. -/
theorem State.command_rosterSound_of_ready {c : Command} {body : State → Except Reply (Reply × State)}
    (hs : s.rosterSound) (hc : ∀ l, c.level l = 3)
    (hb : ∀ {u t : State} {r}, u.phase = .running → u.rosterSound → u.store.commandJobs = [] →
      body u = .ok (r, t) → t.phase = .running ∧ t.rosterSound) :
    (s.command h c ops body).rosterSound := by
  by_cases hp : s.phase = .running
  · have taken := (s.keepsRoster_taken h).rosterSound hp hs
    rcases s.command_cases h c ops body with e | e | ⟨r, e⟩ | ⟨ht, r, t, hok, e⟩
    · rw [e]; exact hs
    · rw [e]; exact (s.keepsRoster_hunt _).rosterSound hp hs
    · rw [e]; exact (State.keepsRoster_reply _ h r).rosterSound (by simpa using hp) taken
    · obtain ⟨hp', hs'⟩ := hb (by simpa using hp) taken (ht.no_command hc hs).2 hok
      rw [e]; exact (State.keepsRoster_reply _ h r).rosterSound hp' hs'
  · rw [State.command_of_held hp]; exact hs

theorem moveDevice_rosterSound {r : Reply} (hp : s.phase = .running) (hs : s.rosterSound)
    (hj : s.store.commandJobs = []) (e : moveDevice ops s = .ok (r, t)) : t.phase = .running ∧ t.rosterSound := by
  obtain ⟨i, j, owns, hm, hsh, free, rfl⟩ := moveDevice_ok e
  exact ⟨hp, State.move_rosterSound hp hs hj owns hm hsh free⟩

theorem restart_rosterSound {r : Reply} (hp : s.phase = .running) (hs : s.rosterSound)
    (hj : s.store.commandJobs = []) (e : restart h s = .ok (r, t)) : t.phase = .running ∧ t.rosterSound := by
  cases e
  have kept : s.keepsRoster { s.setPort h.link { s.port h.link with executing := some (.restart, h.tag) } with
      restart := .pending } :=
    ⟨fun i => by
      change Device.kept _ _ (s.dev i) ((s.setPort h.link _).dev i)
      simpa using Device.kept_refl _, by simp, .inr (by simpa using hj)⟩
  exact ⟨kept.phase.trans hp, kept.rosterSound hp hs⟩

/-- A command write requested on a ready Link S keeps the roster law, when an enrolment among it is at a free index (R7,
R169). -/
theorem State.requestCommand_rosterSound {w : CommandWrite} {x : Command × Byte} (hp : s.phase = .running)
    (hs : s.rosterSound) (hj : s.store.commandJobs = []) (hw : ∀ i e, w = .enrol i e → s.isFree i = true) :
    ((s.setPort .S { s.port .S with executing := some x }).requestWrite (.command w)).rosterSound := by
  obtain ⟨hd, hslots, -⟩ := hs
  have dev : ∀ i,
      ((s.setPort .S { s.port .S with executing := some x }).requestWrite (.command w)).dev i = s.dev i := by
    intro i
    simp [State.dev]
  have jobs : ((s.setPort .S { s.port .S with executing := some x }).requestWrite (.command w)).store.commandJobs =
      [.command w] := by
    rw [State.requestWrite_commandJobs]
    simp [hj]
  have sound : ((s.setPort .S { s.port .S with executing := some x }).requestWrite (.command w)).devicesSound := by
    intro i
    rw [dev]
    simpa using hd i
  refine ⟨sound, fun i j hc => ?_, by simp [jobs], fun _ => by simp [State.setPort], fun i e he => ?_,
    fun hne => absurd (by simpa using hp) hne⟩
  · rw [dev] at hc ⊢
    obtain ⟨hv, hu⟩ := hslots i j hc
    exact ⟨hv, fun k hk => hu k (by rwa [dev] at hk)⟩
  · rw [← Store.mem_commandJobs, jobs, List.mem_singleton] at he
    cases he
    obtain ⟨hv, hn⟩ := (State.isFree_iff hd i).mp (hw i e rfl)
    exact (State.isFree_iff sound i).mpr ⟨by rw [dev]; exact hv, fun k hk => hn k (by rwa [dev] at hk)⟩

theorem State.writeCommand_rosterSound {c : Command} {body : State → Except Reply CommandWrite} (hs : s.rosterSound)
    (hc : ∀ l, c.level l = 3)
    (hb : ∀ {u : State} {w}, body u = .ok w → ∀ i e, w = .enrol i e → u.isFree i = true) :
    (s.writeCommand h c ops body).rosterSound := by
  by_cases hp : s.phase = .running
  · have taken := (s.keepsRoster_taken h).rosterSound hp hs
    rcases s.writeCommand_cases h c ops body with e | e | ⟨r, e⟩ | ⟨ht, w, hok, e⟩
    · rw [e]; exact hs
    · rw [e]; exact (s.keepsRoster_hunt _).rosterSound hp hs
    · rw [e]; exact (State.keepsRoster_reply _ h r).rosterSound (by simpa using hp) taken
    · obtain ⟨link, hj⟩ := ht.no_command hc hs
      rw [e, link]
      exact State.requestCommand_rosterSound (by simpa using hp) taken hj (hb hok)
  · simpa [State.writeCommand, State.whenRunning, hp] using hs

/-- A taken frame of any command keeps the roster law. -/
theorem takeCommand_rosterSound (c : Command) (hs : s.rosterSound) (e : takeCommand c h ops s = .next t) :
    t.rosterSound := by
  cases c with
  | readStatus => cases e; exact State.command_rosterSound hs answerQuery_keepsRoster
  | readDevice => cases e; exact State.command_rosterSound hs readDevice_keepsRoster
  | readZone => cases e; exact State.command_rosterSound hs readZone_keepsRoster
  | readCell => cases e; exact State.command_rosterSound hs readCell_keepsRoster
  | readRoute => cases e; exact State.command_rosterSound hs readRoute_keepsRoster
  | readIdentity => cases e; exact State.command_rosterSound hs answerQuery_keepsRoster
  | attach => cases e; exact State.command_rosterSound hs attach_keepsRoster
  | detach => cases e; exact State.command_rosterSound hs detach_keepsRoster
  | fetchEvent => cases e; exact State.command_rosterSound hs fetchEvent_keepsRoster
  | acknowledgeZone => cases e; exact State.command_rosterSound hs acknowledgeZone_keepsRoster
  | resetZone => cases e; exact State.command_rosterSound hs resetZone_keepsRoster
  | acknowledgeAll => cases e; exact State.command_rosterSound hs acknowledgeAll_keepsRoster
  | resetAll => cases e; exact State.command_rosterSound hs resetAll_keepsRoster
  | disableDevice => cases e; exact State.command_rosterSound hs disableDevice_keepsRoster
  | enableDevice => cases e; exact State.command_rosterSound hs enableDevice_keepsRoster
  | disableZone => cases e; exact State.command_rosterSound hs disableZone_keepsRoster
  | enableZone => cases e; exact State.command_rosterSound hs enableZone_keepsRoster
  | startTest => cases e; exact State.command_rosterSound hs startTest_keepsRoster
  | endTest => cases e; exact State.command_rosterSound hs endTest_keepsRoster
  | selectProfile => cases e; exact State.command_rosterSound hs selectProfile_keepsRoster
  | setTime => cases e; exact State.command_rosterSound hs setTime_keepsRoster
  | clearCellStatistics => cases e; exact State.command_rosterSound hs clearCellStatistics_keepsRoster
  | cancelMove => cases e; exact State.command_rosterSound hs cancelMove_keepsRoster
  | stopCell => cases e; exact State.command_rosterSound hs stopCell_keepsRoster
  | startCell => cases e; exact State.command_rosterSound hs startCell_keepsRoster
  | clearDisablements => cases e; exact State.command_rosterSound hs clearDisablements_keepsRoster
  | moveDevice => cases e; exact State.command_rosterSound_of_ready hs (fun _ => rfl) moveDevice_rosterSound
  | restart => cases e; exact State.command_rosterSound_of_ready hs (fun _ => rfl) restart_rosterSound
  | enrolDevice =>
    cases e
    refine State.writeCommand_rosterSound hs (fun _ => rfl) fun {u w} hok i x hw => ?_
    obtain ⟨j, y, rfl, free⟩ := enrolDevice_ok hok
    cases hw
    exact free
  | removeDevice =>
    cases e
    refine State.writeCommand_rosterSound hs (fun _ => rfl) fun {u w} hok i x hw => ?_
    obtain ⟨_, _, _, rfl⟩ := removeDevice_ok hok
    cases hw
  | pinRoute =>
    cases e
    refine State.writeCommand_rosterSound hs (fun _ => rfl) fun {u w} hok i x hw => ?_
    obtain ⟨_, _, _, rfl⟩ := pinRoute_ok hok
    cases hw
  | unpinRoute =>
    cases e
    refine State.writeCommand_rosterSound hs (fun _ => rfl) fun {u w} hok i x hw => ?_
    obtain ⟨_, _, _, rfl⟩ := unpinRoute_ok hok
    cases hw
  | setZoneParameters =>
    cases e
    refine State.writeCommand_rosterSound hs (fun _ => rfl) fun {u w} hok i x hw => ?_
    obtain ⟨_, _, rfl⟩ := setZoneParameters_ok hok
    cases hw
  | setSiteParameters =>
    cases e
    refine State.writeCommand_rosterSound hs (fun _ => rfl) fun {u w} hok i x hw => ?_
    obtain ⟨_, rfl⟩ := setSiteParameters_ok hok
    cases hw
  | setCellChannel =>
    cases e
    refine State.writeCommand_rosterSound hs (fun _ => rfl) fun {u w} hok i x hw => ?_
    obtain ⟨_, _, rfl⟩ := setCellChannel_ok hok
    cases hw

/-! ### Frames by code and by byte -/

theorem State.refuseUnknown_rosterSound (hs : s.rosterSound) : (s.refuseUnknown h).rosterSound :=
  State.whenRunning_of_keepsRoster hs (State.keepsRoster_onFrame (State.keepsRoster_reply _ h _))

theorem takeFrame_rosterSound {code : Byte} (hs : s.rosterSound) (e : takeFrame h code ops s = .next t) :
    t.rosterSound := by
  unfold takeFrame at e
  split at e
  · exact takeCommand_rosterSound _ hs e
  · cases e; exact State.refuseUnknown_rosterSound hs

theorem byteReceived_rosterSound {l : Link} {key : Bool} {b : Byte} (hp : s.phase = .running) (hs : s.rosterSound)
    (e : byteReceived l key b s = .next t) : t.rosterSound := by
  have hunted : (s.hunt l).rosterSound := (s.keepsRoster_hunt l).rosterSound hp hs
  unfold byteReceived at e
  split at e
  · split at e
    · unfold takeBytes at e
      split at e
      · exact takeFrame_rosterSound hs e
      · cases e; exact hunted
    · cases e; exact hunted
  · cases e
    refine State.keepsRoster.rosterSound (s := s) ?_ hp hs
    exact s.keepsRoster_setPort rfl

/-! ### Write ends -/

theorem State.commandWriteEnd_rosterSound {v : Bool} {apply : CommandWrite → Option (State → State)}
    (hs : s.rosterSound) (ha : ∀ {w f}, apply w = some f → ∀ u : State, u.keepsRoster (f u)) :
    (s.whenRunning fun s => s.commandWriteEnd v apply).rosterSound := by
  have hone := hs.2.2.1
  exact State.whenRunning_of_keepsRoster hs (State.keepsRoster_commandWriteEnd v hone fun _ _ => ha)

/-- The end of an enrolment: its index, free since the request, is given to the new entry (R8). -/
theorem State.enrolWriteEnd_rosterSound {v : Bool} (hs : s.rosterSound) :
    (s.whenRunning fun s => s.commandWriteEnd v enrolApply).rosterSound := by
  refine State.whenRunning_rosterSound hs fun hp => ?_
  obtain ⟨hd, -, hone, -, hfree, -⟩ := id hs
  rcases s.commandWriteEnd_cases v enrolApply with e | ⟨a, w, f, ha, hj, hf, e⟩
  · rw [e]; exact hs
  · unfold enrolApply at hf
    split at hf
    · next i x =>
      cases hf
      have ended : ∀ v, (s.endWrite v).rosterSound ∧ (s.endWrite v).store.commandJobs = [] := fun v =>
        ⟨(State.keepsRoster_endWrite hone ha hj v).rosterSound hp hs, State.endWrite_commandJobs hone ha hj v⟩
      have free : s.isFree i = true := hfree i x (by simp [Store.jobs, ha, hj])
      have still_free : (s.endWrite true).isFree i = true :=
        State.isFree_of_kept hd (ended true).1.1 (m := 0) (fun k => s.endWrite_kept true k) free
      have enrolled := State.enrolled_rosterSound x (by simpa using hp) (ended true).1 still_free (ended true).2
      rcases e with e | e
      · rw [e]
        refine (State.keepsRoster_finishCommand (s := (s.endWrite true).enrolled i x) _ ?_).rosterSound ?_ enrolled
        · exact (ended true).2
        · simpa [State.enrolled] using hp
      · rw [e]
        exact (State.keepsRoster_finishCommand _ (ended false).2).rosterSound (by simpa using hp) (ended false).1
    · cases hf

/-! ### Power, reset and start-up -/

/-- Without requests in the store the roster law is one of the records alone. -/
theorem State.rosterSound_of_idle (hd : s.devicesSound) (hslots : s.slotsSound) (hj : s.store.jobs = []) :
    s.rosterSound :=
  ⟨hd, hslots, by simp [Store.commandJobs, hj], by simp [Store.commandJobs, hj], by simp [hj], fun _ => hj⟩

theorem State.hold_rosterSound (hs : s.rosterSound) : s.hold.rosterSound :=
  State.rosterSound_of_idle hs.1 hs.2.1 rfl

theorem State.beginStartUp_rosterSound (hs : s.rosterSound) : s.beginStartUp.rosterSound :=
  State.rosterSound_of_idle hs.1 hs.2.1 rfl

theorem State.probeAnswered_rosterSound (c : CellIx) (hs : s.rosterSound) : (s.probeAnswered c).rosterSound := by
  unfold State.probeAnswered
  split
  · next hp => exact State.rosterSound_of_idle hs.1 hs.2.1 (hs.2.2.2.2.2 (by simp [hp]))
  · exact hs
  · exact hs

/-- A restored record is sound and claims no slot (R173). -/
theorem restoredDevice_sound (e : Option StoredEntry) (fitted : Bool) (m : Nat) :
    (restoredDevice e fitted).sound m ∧ ∀ i, ¬ (restoredDevice e fitted).claims i := by
  cases e with
  | none => exact ⟨(Device.vacated_sound {}), Device.not_vacated_claims (d := {})⟩
  | some e => cases hg : e.granted <;> simp [restoredDevice, Device.sound, Device.claims_iff, StoredEntry.fresh, hg]

theorem State.restoredFrom_rosterSound (im : Image) (fitted : Vector Bool 4) (key : Bool)
    (hj : s.store.jobs = []) : (s.restoredFrom im fitted key).rosterSound := by
  have dev : ∀ i, (s.restoredFrom im fitted key).dev i = restoredDevice im.roster[i] fitted[homeCell i] := by
    intro i; simp [State.dev, State.restoredFrom]
  refine State.rosterSound_of_idle (fun i => ?_) (fun i j hc => ?_) hj
  · rw [dev]; exact (restoredDevice_sound _ _ _).1
  · rw [dev] at hc; exact absurd hc ((restoredDevice_sound _ _ 0).2 i)

theorem State.finishStartUp_rosterSound (key : Bool) (hs : s.rosterSound) : (s.finishStartUp key).rosterSound := by
  unfold State.finishStartUp
  split
  · next answered hp =>
    refine ((State.keepsRoster_foldl State.keepsRoster_prepareSlots _ _).trans
      (State.keepsRoster_foldl State.keepsRoster_requestBeacon _ _)).rosterSound rfl ?_
    exact State.restoredFrom_rosterSound _ _ _ (hs.2.2.2.2.2 (by simp [hp]))
  · exact hs
  · exact hs

/-! ### The step -/

theorem State.keepsRoster_withTime (s : State) (x : Timebase) : s.keepsRoster { s with time := x } :=
  State.keepsRoster_of_eq rfl rfl rfl rfl rfl

/-- Every command and event keeps the roster law. -/
theorem exec_rosterSound (c : Instr) (hs : s.rosterSound) (e : exec c s = .next t) : t.rosterSound := by
  cases c with
  | readStatus h ops => exact takeCommand_rosterSound .readStatus hs e
  | readDevice h ops => exact takeCommand_rosterSound .readDevice hs e
  | readZone h ops => exact takeCommand_rosterSound .readZone hs e
  | readCell h ops => exact takeCommand_rosterSound .readCell hs e
  | readRoute h ops => exact takeCommand_rosterSound .readRoute hs e
  | readIdentity h ops => exact takeCommand_rosterSound .readIdentity hs e
  | attach h ops => exact takeCommand_rosterSound .attach hs e
  | detach h ops => exact takeCommand_rosterSound .detach hs e
  | fetchEvent h ops => exact takeCommand_rosterSound .fetchEvent hs e
  | acknowledgeZone h ops => exact takeCommand_rosterSound .acknowledgeZone hs e
  | resetZone h ops => exact takeCommand_rosterSound .resetZone hs e
  | acknowledgeAll h ops => exact takeCommand_rosterSound .acknowledgeAll hs e
  | resetAll h ops => exact takeCommand_rosterSound .resetAll hs e
  | disableDevice h ops => exact takeCommand_rosterSound .disableDevice hs e
  | enableDevice h ops => exact takeCommand_rosterSound .enableDevice hs e
  | disableZone h ops => exact takeCommand_rosterSound .disableZone hs e
  | enableZone h ops => exact takeCommand_rosterSound .enableZone hs e
  | startTest h ops => exact takeCommand_rosterSound .startTest hs e
  | endTest h ops => exact takeCommand_rosterSound .endTest hs e
  | selectProfile h ops => exact takeCommand_rosterSound .selectProfile hs e
  | setTime h ops => exact takeCommand_rosterSound .setTime hs e
  | clearCellStatistics h ops => exact takeCommand_rosterSound .clearCellStatistics hs e
  | enrolDevice h ops => exact takeCommand_rosterSound .enrolDevice hs e
  | removeDevice h ops => exact takeCommand_rosterSound .removeDevice hs e
  | moveDevice h ops => exact takeCommand_rosterSound .moveDevice hs e
  | cancelMove h ops => exact takeCommand_rosterSound .cancelMove hs e
  | pinRoute h ops => exact takeCommand_rosterSound .pinRoute hs e
  | unpinRoute h ops => exact takeCommand_rosterSound .unpinRoute hs e
  | setZoneParameters h ops => exact takeCommand_rosterSound .setZoneParameters hs e
  | setSiteParameters h ops => exact takeCommand_rosterSound .setSiteParameters hs e
  | setCellChannel h ops => exact takeCommand_rosterSound .setCellChannel hs e
  | stopCell h ops => exact takeCommand_rosterSound .stopCell hs e
  | startCell h ops => exact takeCommand_rosterSound .startCell hs e
  | clearDisablements h ops => exact takeCommand_rosterSound .clearDisablements hs e
  | restart h ops => exact takeCommand_rosterSound .restart hs e
  | unknownCommandFrame h code ops => exact takeFrame_rosterSound hs e
  | busyFrame h code ops => exact takeFrame_rosterSound hs e
  | enrolDeviceWriteEnd v => cases e; exact State.enrolWriteEnd_rosterSound hs
  | removeDeviceWriteEnd v => cases e; exact State.commandWriteEnd_rosterSound hs removeApply_keepsRoster
  | pinRouteWriteEnd v => cases e; exact State.commandWriteEnd_rosterSound hs pinApply_keepsRoster
  | unpinRouteWriteEnd v => cases e; exact State.commandWriteEnd_rosterSound hs unpinApply_keepsRoster
  | setZoneParametersWriteEnd v => cases e; exact State.commandWriteEnd_rosterSound hs zoneApply_keepsRoster
  | setSiteParametersWriteEnd v => cases e; exact State.commandWriteEnd_rosterSound hs siteApply_keepsRoster
  | setCellChannelWriteEnd v => cases e; exact State.commandWriteEnd_rosterSound hs channelApply_keepsRoster
  | frameCrcDiscard l => cases e; exact State.whenRunning_of_keepsRoster hs (s.keepsRoster_hunt l)
  | frameGapTimeout l => cases e; exact State.whenRunning_of_keepsRoster hs (s.keepsRoster_hunt l)
  | linkSilence p =>
    cases e
    exact State.whenRunning_of_keepsRoster hs
      (State.keepsRoster_ite (fun _ => s.keepsRoster_detachPanel p .silence) (fun _ => s.keepsRoster_refl))
  | receivedCopy c x => cases e; exact State.whenRunning_of_keepsRoster hs (s.keepsRoster_receiveCopy c x)
  | downlinkAssembly c => cases e; exact State.whenRunning_of_keepsRoster hs (s.keepsRoster_assemble c)
  | transmitConfirm c x => cases e; exact State.whenRunning_of_keepsRoster hs (s.keepsRoster_confirm c x)
  | intervalEnd => cases e; exact State.whenRunning_of_keepsRoster hs s.keepsRoster_endInterval
  | superframeBoundary =>
    cases e
    exact State.whenRunning_of_keepsRoster hs (State.keepsRoster_ite
      (fun _ => (s.keepsRoster_withTime _).trans (State.keepsRoster_superframeBoundary _))
      (fun _ => s.keepsRoster_refl))
  | cycleBoundary =>
    cases e
    refine State.whenRunning_rosterSound hs fun hp => ?_
    split
    · exact State.cycleBoundary_rosterSound (s := { s with time := _ }) hp hs
    · exact hs
  | enrolmentDeadline i =>
    cases e
    exact State.whenRunning_of_keepsRoster hs
      (State.keepsRoster_ite (fun _ => s.keepsRoster_timeOut i) (fun _ => s.keepsRoster_refl))
  | corroborationLapse z =>
    cases e
    exact State.whenRunning_of_keepsRoster hs
      (State.keepsRoster_ite (fun _ => s.keepsRoster_lapse z) (fun _ => s.keepsRoster_refl))
  | profileExpiry z =>
    cases e
    exact State.whenRunning_of_keepsRoster hs (State.keepsRoster_ite
      (fun _ => (s.keepsRoster_setZone z _).trans (State.keepsRoster_create _ _)) (fun _ => s.keepsRoster_refl))
  | testExpiry z =>
    cases e
    refine State.whenRunning_of_keepsRoster hs ?_
    split
    · exact s.keepsRoster_endTestOf _ _ _
    · exact s.keepsRoster_refl
  | storeWriteStart => cases e; exact State.whenRunning_of_keepsRoster hs s.keepsRoster_startWaiting
  | rosterWriteEnd v => cases e; exact State.whenRunning_of_keepsRoster hs (s.keepsRoster_rosterWriteEnd v)
  | powerLossOrReset => cases e; exact State.hold_rosterSound hs
  | startUp =>
    cases e
    split
    · exact State.beginStartUp_rosterSound hs
    · exact hs
  | restartStartUp =>
    cases e
    refine State.whenRunning_rosterSound hs fun _ => ?_
    split
    · exact State.beginStartUp_rosterSound hs
    · exact hs
  | probeAnswer c => cases e; exact State.probeAnswered_rosterSound c hs
  | probeTimeout key => cases e; exact State.finishStartUp_rosterSound key hs
  | frameByteReceived l key b =>
    change execFrameByteReceived l key b s = .next t at e
    unfold execFrameByteReceived at e
    split at e
    · next hp => exact byteReceived_rosterSound hp hs e
    · cases e; exact hs
  | responseWhollySent l => cases e; exact State.whenRunning_of_keepsRoster hs (s.keepsRoster_setPort rfl)

/-- Settles O58: the records are kept by all steps but four, which give a slot a new claim or an index a device: an
enrolment at the index its request has kept free, a move to a free index, the transfer to a target that the mover alone
claims, and start-up, which restores records without claims. -/
theorem stepKeepsRosterLaw : Obligations.StepKeepsRosterLaw := by
  intro s t hs e
  unfold step at e
  split at e
  · cases e; exact hs
  · next c rest _ => exact exec_rosterSound (s := { s with pending := rest }) c hs e

/-- Settles O60: at reset there are no events, the zones are Quiet on their Normal profile, and the roster and the store
are empty. -/
theorem resetObeysLaws : Obligations.ResetObeysLaws := by
  have dev : ∀ i, State.reset.dev i = {} := fun i => by simp [State.dev, State.reset]
  have zone : ∀ z, State.reset.zone z = {} := fun z => by simp [State.zone, State.reset]
  refine ⟨⟨Nat.zero_le _, nofun⟩, fun z => ?_, State.rosterSound_of_idle (fun i => ?_) (fun i j hc => ?_) rfl,
    fun i hi => ?_⟩
  · rw [zone]; simp [Zone.sound]
  · rw [dev]; exact Device.vacated_sound {}
  · rw [dev] at hc; exact absurd hc (Device.not_vacated_claims (d := {}) i)
  · rw [dev] at hi; cases hi

end Sys2Proof.Machine

/-! ## Decided commands: refusals, requests and effects -/

namespace Sys2Proof.Machine

variable {s t u : State} {h : FrameHead} {c : Command} {ops : List Byte}

/-! ### Checked computations -/

@[simp] theorem ok_bind {ε α β : Type} (a : α) (f : α → Except ε β) : ((.ok a : Except ε α) >>= f) = f a := rfl
@[simp] theorem error_bind {ε α β : Type} (e : ε) (f : α → Except ε β) :
    ((.error e : Except ε α) >>= f) = .error e := rfl

theorem check_of {p : Bool} (hp : p = true) (r : Result) (v : Nat) : check p r v = .ok () := if_pos hp

theorem check_of_not {p : Bool} (hp : p = false) (r : Result) (v : Nat) :
    check p r v = .error { result := r, value := v } := by subst hp; rfl

/-- Check 5 of R155 for a roster index: the boundary is 191. -/
theorem deviceTarget_of_ge {b : Byte} (hb : 192 ≤ b.toNat) :
    deviceTarget b = .error { result := .badTarget, value := b.toNat } := dif_neg (by omega)

theorem deviceTarget_of_eq {b : Byte} {i : DevIx} (hb : b.toNat = i.val) : deviceTarget b = .ok i := by
  have lt : b.toNat < 192 := hb ▸ i.isLt
  rw [deviceTarget, dif_pos lt]
  exact congrArg _ (Fin.ext hb)

/-- One check of a chain: what follows from its refusal when it fails, and from the rest of the chain when it passes. -/
theorem ite_of_eq_ite {α : Type} {p : Prop} [Decidable p] {x y z : α} {a b : Prop} (e : x = if p then y else z)
    (ha : x = y → a) (hb : x = z → b) : if p then a else b := by
  split
  · next h => exact ha (by rw [e, if_pos h])
  · next h => exact hb (by rw [e, if_neg h])

/-! ### What a taken frame leaves -/

@[simp] theorem State.taken_dev (s : State) (h : FrameHead) (i : DevIx) : (s.taken h).dev i = s.dev i := by
  obtain ⟨l, key, tag, level⟩ := h
  cases l <;> rfl

@[simp] theorem State.taken_cell (s : State) (h : FrameHead) (b : CellIx) : (s.taken h).cell b = s.cell b := by
  obtain ⟨l, key, tag, level⟩ := h
  cases l <;> rfl

@[simp] theorem State.taken_store (s : State) (h : FrameHead) : (s.taken h).store = s.store := by
  obtain ⟨l, key, tag, level⟩ := h
  cases l <;> rfl

@[simp] theorem State.taken_findDev (s : State) (h : FrameHead) (p : DevIx → Device → Bool) :
    (s.taken h).findDev p = s.findDev p := by simp [State.findDev]

@[simp] theorem State.taken_isFree (s : State) (h : FrameHead) (i : DevIx) : (s.taken h).isFree i = s.isFree i := by
  simp [State.isFree, State.shadowHolder, State.moverTo]

@[simp] theorem State.taken_holder (s : State) (h : FrameHead) (identity : BitVec 24) :
    (s.taken h).holder identity = s.holder identity := by simp [State.holder]

@[simp] theorem State.taken_relayUsed (s : State) (h : FrameHead) (p : Path) :
    (s.taken h).relayUsed p = s.relayUsed p := by simp [State.relayUsed]

/-- Nobody holds an identity exactly when no entry that is not Vacant has it (R7). -/
theorem State.holder_eq_none {identity : BitVec 24} :
    s.holder identity = none ↔ ∀ k, (s.dev k).life ≠ .vacant → (s.dev k).identity ≠ identity := by
  simp [State.holder, State.findDev_eq_none]

theorem State.relayUsed_iff {p : Path} : s.relayUsed p = true ↔
    ∃ k, (s.dev k).life ≠ .vacant ∧ (s.dev k).kind = .repeater ∧ (s.dev k).relay = p := by
  simp [State.relayUsed, State.findDev_isSome, Device.isRelay, and_assoc]

/-! ### Refusals -/

theorem State.takes.answers (ht : s.takes h c) : (s.taken h).answers h.link :=
  s.taken_answers ht.2.2.2.1

/-- A command refused by its own checks (R156). -/
theorem State.command_refuses {body : State → Except Reply (Reply × State)} (ht : s.takes h c)
    (hn : ops.length = c.operands) {r : Result} {v : Nat}
    (hb : body (s.taken h) = .error { result := r, value := v }) :
    s.refuses h r v (.next (s.command h c ops body)) := by
  rw [State.refuses, s.command_of_takes ht hn, hb, ← State.reply_of_answers _ ht.answers]

/-- A command carried out (R157). -/
theorem State.command_carried {body : State → Except Reply (Reply × State)} (ht : s.takes h c)
    (hn : ops.length = c.operands) {r : Reply} (hb : body (s.taken h) = .ok (r, t)) (ha : t.answers h.link) :
    s.command h c ops body = t.sends h.link h.tag r := by
  rw [s.command_of_takes ht hn, hb, ← State.reply_of_answers _ ha]

/-- A writing command refused by its own checks (R156). -/
theorem State.writeCommand_refuses {body : State → Except Reply CommandWrite} (ht : s.takes h c)
    (hn : ops.length = c.operands) {r : Result} {v : Nat}
    (hb : body (s.taken h) = .error { result := r, value := v }) :
    s.refuses h r v (.next (s.writeCommand h c ops body)) := by
  rw [State.refuses, s.writeCommand_of_takes ht hn, hb, ← State.reply_of_answers _ ht.answers]

/-- A write request changes the store alone: it adds its write behind those requested before, and leaves the bank in
force (R168, R169). -/
theorem State.requestCommand_store (s : State) (w : CommandWrite) : ∃ x : Store,
    s.requestWrite (.command w) = { s with store := x } ∧ x.jobs = s.store.jobs ++ [.command w] ∧
      x.current = s.store.current ∧ x.inForce = s.store.inForce := by
  rcases s.requestWrite_cases (.command w) with ⟨ha, hw, e⟩ | e
  · obtain ⟨hc, hf, -⟩ := s.startWrite_store (.command w)
    exact ⟨(s.startWrite _).store, e, by rw [State.startWrite_jobs]; simp [Store.jobs, ha, hw], hc, hf⟩
  · exact ⟨_, e, by simp [Store.jobs, joinWaiting], rfl, rfl⟩

/-- A writing command that passes its checks requests its write (R152). -/
theorem State.writeCommand_requests {body : State → Except Reply CommandWrite} (ht : s.takes h c)
    (hn : ops.length = c.operands) {w : CommandWrite} (hb : body (s.taken h) = .ok w) :
    s.writeRequested h c w (.next (s.writeCommand h c ops body)) := by
  obtain ⟨x, e, hj, hc, hf⟩ := ((s.taken h).setPort h.link
    { (s.taken h).port h.link with executing := some (c, h.tag) }).requestCommand_store w
  rw [s.writeCommand_of_takes ht hn, hb]
  exact ⟨x, congrArg _ e, by simpa using hj, by simpa using hc, by simpa using hf⟩

/-! ## Enrol Device and Remove Device (R7, R14) -/

/-- The device kind of a code (R174). -/
theorem Kind.ofCode_eq_some {b : Byte} {k : Kind} : Kind.ofCode b = some k ↔ k.code = b.toNat := by
  unfold Kind.ofCode
  split <;> cases k <;> simp_all [Kind.code] <;> omega

theorem Kind.code_range (k : Kind) : 1 ≤ k.code ∧ k.code ≤ 4 ∧ (k.code = 4 ↔ k = .repeater) := by
  cases k <;> simp [Kind.code]

theorem Kind.exists_sensor_code {n : Nat} (h : 1 ≤ n) (h' : n ≤ 3) : ∃ k : Kind, k.code = n ∧ k ≠ .repeater := by
  interval_cases n
  · exact ⟨.smoke, rfl, nofun⟩
  · exact ⟨.heat, rfl, nofun⟩
  · exact ⟨.callPoint, rfl, nofun⟩

@[simp] theorem State.taken_enrolKind (s : State) (h : FrameHead) (kind zr : Byte) :
    (s.taken h).enrolKind kind zr = s.enrolKind kind zr := by simp [State.enrolKind]

/-- Check 5 of R7 for a Repeater: a relay number from 1 to 15 that no Repeater has. -/
theorem State.enrolKind_repeater {kind zr : Byte} (hk : kind.toNat = 4) (hz : 1 ≤ zr.toNat) (hz' : zr.toNat < 16)
    (free : ∀ k, (s.dev k).life ≠ .vacant → (s.dev k).kind = .repeater → (s.dev k).relay.val ≠ zr.toNat) :
    s.enrolKind kind zr = .ok (.repeater, 0, ⟨zr.toNat, hz'⟩) := by
  have unused : s.relayUsed ⟨zr.toNat, hz'⟩ = false := by
    rw [Bool.eq_false_iff, ne_eq, State.relayUsed_iff]
    rintro ⟨k, hv, hr, e⟩
    exact free k hv hr (congrArg Fin.val e)
  have nonzero : zr.toNat ≠ 0 := by omega
  have code : Kind.ofCode kind = some .repeater := Kind.ofCode_eq_some.mpr hk.symm
  simp [State.enrolKind, code, hz', unused, nonzero]

/-- Check 5 of R7 for the other kinds: a zone from 0 to 31. -/
theorem State.enrolKind_sensor {kind zr : Byte} {k : Kind} (hk : k.code = kind.toNat) (hr : k ≠ .repeater)
    (hz : zr.toNat < 32) : s.enrolKind kind zr = .ok (k, ⟨zr.toNat, hz⟩, 0) := by
  cases k <;> simp_all [State.enrolKind, Kind.ofCode_eq_some.mpr hk]

theorem State.enrolKind_refused {kind zr : Byte}
    (bad : ¬ ((1 ≤ kind.toNat ∧ kind.toNat ≤ 3 ∧ zr.toNat < 32) ∨ (kind.toNat = 4 ∧ 1 ≤ zr.toNat ∧ zr.toNat < 16 ∧
      ∀ k, (s.dev k).life ≠ .vacant → (s.dev k).kind = .repeater → (s.dev k).relay.val ≠ zr.toNat))) :
    s.enrolKind kind zr = .error { result := .badValue } := by
  unfold State.enrolKind
  split
  · rfl
  · next hk =>
    have hk : kind.toNat = 4 := (Kind.ofCode_eq_some.mp hk).symm
    split
    · next hz =>
      have used : zr.toNat = 0 ∨ s.relayUsed ⟨zr.toNat, hz⟩ = true := by
        by_contra unused
        rw [not_or, State.relayUsed_iff] at unused
        exact bad (.inr ⟨hk, by omega, hz, fun k hv hr e => unused.2 ⟨k, hv, hr, Fin.ext e⟩⟩)
      rw [if_pos used]
      rfl
    · rfl
  · next k hr hk =>
    have code := Kind.ofCode_eq_some.mp hk
    obtain ⟨low, high, four⟩ := k.code_range
    have not_four : k.code ≠ 4 := fun e => hr (four.mp e)
    have zone : ¬ zr.toNat < 32 := fun hz => bad (.inl ⟨by omega, by omega, hz⟩)
    rw [dif_neg zone]
    rfl

/-- Enrol Device checks its index, its cell and the freedom of its slot before anything else (R7). -/
theorem enrolDevice_eq {b i1 i2 i3 kind zr : Byte} {i : DevIx} (hb : b.toNat = i.val) :
    enrolDevice [b, i1, i2, i3, kind, zr] s =
      if (s.cell (homeCell i)).state = .absent then .error { result := .cellAbsent }
      else if s.isFree i = false then .error { result := .slotTaken }
      else if (s.holder (i1 ++ i2 ++ i3)).isSome then .error { result := .duplicateIdentity }
      else (s.enrolKind kind zr).map fun x =>
        .enrol i { identity := i1 ++ i2 ++ i3, kind := x.1, zone := x.2.1, relay := x.2.2, granted := false } := by
  simp only [enrolDevice, deviceTarget_of_eq hb, ok_bind, State.checkFitted, be24]
  split
  · next ha => rw [check_of_not (by simp [ha])]; rfl
  · next ha =>
    rw [check_of (by simpa using ha), ok_bind]
    split
    · next hf => rw [check_of_not hf]; rfl
    · next hf =>
      rw [check_of (by simpa using hf), ok_bind]
      split
      · next hd => rw [check_of_not (by simpa using hd)]; rfl
      · next hd =>
        rw [check_of (by simpa using hd), ok_bind]
        cases s.enrolKind kind zr <;> rfl

theorem enrolDevice_bad_target {b i1 i2 i3 kind zr : Byte} (hb : 192 ≤ b.toNat) :
    enrolDevice [b, i1, i2, i3, kind, zr] s = .error { result := .badTarget, value := b.toNat } := by
  simp only [enrolDevice, deviceTarget_of_ge hb, error_bind]

theorem removeDevice_eq {b : Byte} {i : DevIx} (hb : b.toNat = i.val) :
    removeDevice [b] s = if (s.dev i).life = .vacant then .error { result := .vacantTarget }
      else .ok (.remove i (s.dev i).identity (if (s.dev i).kind = .repeater then some (s.dev i).relay else none)) := by
  simp only [removeDevice, deviceTarget_of_eq hb, ok_bind, State.checkPresent]
  by_cases hv : (s.dev i).life = .vacant
  · rw [check_of_not (by simp [hv]), if_pos hv]; rfl
  · rw [check_of (by simpa using hv), if_neg hv]; rfl

theorem removeDevice_bad_target {b : Byte} (hb : 192 ≤ b.toNat) :
    removeDevice [b] s = .error { result := .badTarget, value := b.toNat } := by
  simp only [removeDevice, deviceTarget_of_ge hb, error_bind]

theorem enrolDevice_decided {b i1 i2 i3 kind zr : Byte} (ht : s.takes h .enrolDevice) {r : Result} {v : Nat}
    (e : enrolDevice [b, i1, i2, i3, kind, zr] (s.taken h) = .error { result := r, value := v }) :
    s.refuses h r v (exec (.enrolDevice h [b, i1, i2, i3, kind, zr]) s) :=
  State.writeCommand_refuses ht rfl e

/-- Settles O18: each clause reads one branch of the checks of R7 and R14, made on the state that the taken frame
leaves. -/
theorem enrolAndRemoveDecided : Obligations.EnrolAndRemoveDecided := by
  refine ⟨fun s h b i1 i2 i3 kind zr ht => ?_, fun s h b ht => ?_⟩
  · refine ⟨fun hb => enrolDevice_decided ht (enrolDevice_bad_target hb), fun i hb => ?_⟩
    have decided := enrolDevice_eq (s := s.taken h) (i1 := i1) (i2 := i2) (i3 := i3) (kind := kind) (zr := zr) hb
    simp only [State.taken_cell, State.taken_isFree, State.taken_holder] at decided
    refine ⟨fun ha => enrolDevice_decided ht (by rw [decided, if_pos ha]), fun ha => ?_⟩
    rw [if_neg ha] at decided
    refine ⟨fun hf => enrolDevice_decided ht (by rw [decided, if_pos hf]), fun hf => ?_⟩
    rw [if_neg (by simp [hf])] at decided
    refine ⟨fun ⟨k, hv, hk⟩ => enrolDevice_decided ht ?_, fun fresh => ?_⟩
    · have held : (s.holder (i1 ++ i2 ++ i3)).isSome = true := by
        by_contra none
        exact State.holder_eq_none.mp (by simpa using none) k hv hk
      rw [decided, if_pos held]
    rw [State.holder_eq_none.mpr fresh, if_neg (by simp), State.taken_enrolKind] at decided
    have request : ∀ k z p, s.enrolKind kind zr = .ok (k, z, p) → s.writeRequested h .enrolDevice
        (.enrol i { identity := i1 ++ i2 ++ i3, kind := k, zone := z, relay := p, granted := false })
        (exec (.enrolDevice h [b, i1, i2, i3, kind, zr]) s) := fun k z p hx =>
      State.writeCommand_requests ht rfl (by rw [decided, hx]; rfl)
    refine ⟨fun bad => enrolDevice_decided ht ?_, fun ok => ?_⟩
    · rw [decided, State.enrolKind_refused bad]; rfl
    · rcases ok with ⟨low, high, hz⟩ | ⟨hk, hz, hz', free⟩
      · obtain ⟨k, hk, hr⟩ := Kind.exists_sensor_code low high
        exact ⟨_, request _ _ _ (State.enrolKind_sensor hk hr hz), rfl, hk, rfl, fun e => absurd e hr, fun _ => rfl⟩
      · exact ⟨_, request _ _ _ (State.enrolKind_repeater hk hz hz' free), rfl, hk.symm, rfl, fun _ => rfl,
          fun e => absurd rfl e⟩
  · refine ⟨fun hb => State.writeCommand_refuses ht rfl (removeDevice_bad_target hb), fun i hb => ?_⟩
    have decided := removeDevice_eq (s := s.taken h) hb
    simp only [State.taken_dev] at decided
    exact ⟨fun hv => State.writeCommand_refuses ht rfl (by rw [decided, if_pos hv]),
      fun hv => State.writeCommand_requests ht rfl (by rw [decided, if_neg hv])⟩

/-! ## Move Device and Cancel Move (R17, R21) -/

/-- The checks of Move Device in their order, and its effect (R17). -/
theorem moveDevice_eq {bi bj : Byte} {i j : DevIx} (hi : bi.toNat = i.val) (hj : bj.toNat = j.val) :
    moveDevice [bi, bj] s =
      if (s.cell (homeCell j)).state = .absent then .error { result := .cellAbsent }
      else if (s.dev i).life = .vacant then .error { result := .vacantTarget }
      else if i = j then .error { result := .badValue }
      else if (s.dev i).life = .enrolling then .error { result := .wrongState }
      else if (s.dev i).move ≠ none ∨ (s.dev i).shadow ≠ none then .error { result := .wrongState }
      else if s.isFree j = false then .error { result := .slotTaken }
      else .ok (doneReply, s.setDev i { s.dev i with move := some { target := j, stage := .pending } }) := by
  simp only [moveDevice, deviceTarget_of_eq hi, deviceTarget_of_eq hj, ok_bind, State.checkFitted, State.checkPresent]
  split
  · next ha => rw [check_of_not (by simp [ha])]; rfl
  · next ha =>
    rw [check_of (by simpa using ha), ok_bind]
    split
    · next hv => rw [check_of_not (by simp [hv])]; rfl
    · next hv =>
      rw [check_of (by simpa using hv), ok_bind]
      split
      · next he => rw [check_of_not (by simp [he])]; rfl
      · next he =>
        rw [check_of (by simpa using he), ok_bind]
        split
        · next ho => rw [check_of_not (by simp [ho, Life.owns])]; rfl
        · next ho =>
          rw [check_of (Life.owns_iff.mpr ⟨hv, ho⟩), ok_bind]
          split
          · next hm =>
            have busy : ((s.dev i).move.isNone && (s.dev i).shadow.isNone) = false := by
              rw [Bool.and_eq_false_iff, Option.isNone_eq_false_iff, Option.isNone_eq_false_iff]
              simpa [Option.ne_none_iff_isSome] using hm
            rw [check_of_not busy]; rfl
          · next hm =>
            rw [check_of (by simpa [not_or] using hm), ok_bind]
            split
            · next hf => rw [check_of_not hf]; rfl
            · next hf => rw [check_of (by simpa using hf)]; rfl

theorem moveDevice_bad_entry {bi bj : Byte} (hi : 192 ≤ bi.toNat) :
    moveDevice [bi, bj] s = .error { result := .badTarget, value := bi.toNat } := by
  simp only [moveDevice, deviceTarget_of_ge hi, error_bind]

theorem moveDevice_bad_target {bi bj : Byte} (hi : bi.toNat < 192) (hj : 192 ≤ bj.toNat) :
    moveDevice [bi, bj] s = .error { result := .badTarget, value := bj.toNat } := by
  simp only [moveDevice, deviceTarget_of_eq (i := ⟨bi.toNat, hi⟩) rfl, ok_bind, deviceTarget_of_ge hj, error_bind]

/-- The checks of Cancel Move and its effect (R21). -/
theorem cancelMove_eq {b : Byte} {i : DevIx} (hb : b.toNat = i.val) :
    cancelMove [b] s = if (s.dev i).life = .vacant then .error { result := .vacantTarget }
      else match (s.dev i).move with
        | none => .error { result := .wrongState }
        | some m => .ok (doneReply, s.cancelled i m) := by
  simp only [cancelMove, deviceTarget_of_eq hb, ok_bind, State.checkPresent]
  by_cases hv : (s.dev i).life = .vacant
  · rw [check_of_not (by simp [hv]), if_pos hv]; rfl
  · rw [check_of (by simpa using hv), if_neg hv]; rfl

theorem cancelMove_bad_target {b : Byte} (hb : 192 ≤ b.toNat) :
    cancelMove [b] s = .error { result := .badTarget, value := b.toNat } := by
  simp only [cancelMove, deviceTarget_of_ge hb, error_bind]

/-- A change of records and cells leaves a link able to respond. -/
theorem State.answers_of_port {l : Link} (h : s.answers l) (e : t.port l = s.port l) : t.answers l := by
  rw [State.answers, e]; exact h

/-- Settles O19: each clause reads one branch of the checks of R17 and R21. -/
theorem moveAndCancelMoveDecided : Obligations.MoveAndCancelMoveDecided := by
  refine ⟨fun s h bi bj ht => ?_, fun s h b ht => ?_⟩
  · have refused : ∀ {r v}, moveDevice [bi, bj] (s.taken h) = .error { result := r, value := v } →
        s.refuses h r v (exec (.moveDevice h [bi, bj]) s) := fun e => State.command_refuses ht rfl e
    refine ⟨fun hi => refused (moveDevice_bad_entry hi), fun hi hj => refused (moveDevice_bad_target hi hj),
      fun i j hi hj => ?_⟩
    have decided := moveDevice_eq (s := s.taken h) hi hj
    simp only [State.taken_cell, State.taken_dev, State.taken_isFree] at decided
    refine ite_of_eq_ite decided refused fun decided => ?_
    refine ite_of_eq_ite decided refused fun decided => ?_
    refine ite_of_eq_ite decided refused fun decided => ?_
    refine ite_of_eq_ite decided refused fun decided => ?_
    refine ite_of_eq_ite decided refused fun decided => ?_
    refine ite_of_eq_ite decided refused fun decided => ?_
    exact congrArg _ (State.command_carried ht rfl decided (State.answers_of_port ht.answers (by simp)))
  · have refused : ∀ {r v}, cancelMove [b] (s.taken h) = .error { result := r, value := v } →
        s.refuses h r v (exec (.cancelMove h [b]) s) := fun e => State.command_refuses ht rfl e
    refine ⟨fun hb => refused (cancelMove_bad_target hb), fun i hb => ?_⟩
    have decided := cancelMove_eq (s := s.taken h) hb
    simp only [State.taken_dev] at decided
    refine ⟨fun hv => refused (by rw [decided, if_pos hv]), fun hv => ?_⟩
    rw [if_neg hv] at decided
    refine ⟨fun hm => refused (by rw [decided, hm]), fun j hm => ?_, fun j hm => ?_⟩
    · rw [hm] at decided
      refine congrArg _ ((State.command_carried ht rfl decided (State.answers_of_port ht.answers ?_)).trans ?_)
      · simp [State.cancelled]
      · simp [State.cancelled, doneReply]
    · rw [hm] at decided
      refine congrArg _ ((State.command_carried ht rfl decided (State.answers_of_port ht.answers ?_)).trans ?_)
      · simp [State.cancelled, State.setSlot]
      · simp [State.cancelled, State.setSlot, doneReply]

end Sys2Proof.Machine

/-! ## The ends of writes (R168) -/

namespace Sys2Proof.Machine

variable {s t u : State} {a : ActiveWrite}

/-- What a bank write leaves of a store: the other bank and the requests. -/
theorem Store.setBank_same (x : Store) (n : BankNo) (b : Bank) :
    (x.setBank n b).current = x.current ∧ (x.setBank n b).waiting = x.waiting ∧
      (x.setBank n b).invalid = x.invalid ∧ (x.setBank n b).bank n = b := by
  cases n <;> exact ⟨rfl, rfl, rfl, rfl⟩

/-- The bank a write goes into is not the current one, so its contents do not touch the image in force (R168). -/
theorem Store.setBank_target_inForce (x : Store) (b : Bank) : (x.setBank x.target b).inForce = x.inForce := by
  unfold Store.inForce Store.target
  rcases hc : x.current with _ | (_ | _) <;> simp [Store.setBank, Store.bank, hc]

/-- The end of a write whose verify passes (R168). -/
theorem State.endWrite_verified (ha : s.store.active = some a) : s.endWrite true =
    { s with store := { s.store.setBank s.store.target a.image.sealed with
        current := some s.store.target, invalid := false, active := none } }.markOutstanding a.replaced false := by
  simp only [State.endWrite, ha, if_true]

/-- The end of a write whose verify fails (R168). -/
theorem State.endWrite_failed (ha : s.store.active = some a) : s.endWrite false =
    { s with store := { s.store.setBank s.store.target .erased with active := none } } := by
  simp [State.endWrite, ha]

theorem State.rosterWriteEnd_of_roster {ixs : List DevIx} (v : Bool) (ha : s.store.active = some a)
    (hj : a.job = .roster ixs) : s.rosterWriteEnd v =
      if v then s.endWrite true else (s.endWrite false).markOutstanding ixs true := by
  obtain ⟨job, image, replaced⟩ := a
  cases hj
  simp only [State.rosterWriteEnd, ha]

/-- Settles O23: the two outcomes of the read-back, field by field. -/
theorem writeEndSettlesBanks : Obligations.WriteEndSettlesBanks := by
  refine ⟨fun s a ha => ?_, fun s a ixs hp ha hj => ⟨?_, ?_⟩⟩
  · obtain ⟨-, written_waiting, -, written⟩ := s.store.setBank_same s.store.target a.image.sealed
    obtain ⟨erased_current, erased_waiting, erased_invalid, erased⟩ := s.store.setBank_same s.store.target .erased
    have image : (s.endWrite true).store.inForce = some a.image := by
      rw [State.endWrite_verified ha, State.markOutstanding_store]
      change ((s.store.setBank s.store.target a.image.sealed).bank s.store.target).image = some a.image
      rw [written, Image.sealed_image]
    have records : ∀ i, (s.endWrite true).dev i =
        { s.dev i with outstanding := if i ∈ a.replaced then false else (s.dev i).outstanding } := by
      intro i
      rw [State.endWrite_verified ha, State.markOutstanding_dev]
      split
      · rfl
      · rfl
    refine ⟨?_, image, ?_, ?_, ?_, records, ?_⟩
    · rw [State.endWrite_verified ha, State.markOutstanding_store]
    · rw [State.endWrite_verified ha, State.markOutstanding_store]
    · rw [State.endWrite_verified ha, State.markOutstanding_store]
    · rw [State.endWrite_verified ha, State.markOutstanding_store]; exact written_waiting
    · rw [State.endWrite_failed ha]
      exact ⟨erased, erased_current, s.store.setBank_target_inForce .erased, rfl, erased_waiting, erased_invalid,
        fun _ => rfl⟩
  · change Host.Outcome.next (s.whenRunning fun s => s.rosterWriteEnd true) = _
    rw [State.whenRunning, if_pos hp, State.rosterWriteEnd_of_roster true ha hj]
    rfl
  · change Host.Outcome.next (s.whenRunning fun s => s.rosterWriteEnd false) = _
    rw [State.whenRunning, if_pos hp, State.rosterWriteEnd_of_roster false ha hj]
    rfl

/-! ## The working changes of the device writes (R8, R14 to R16, R59, R60) -/

/-- A verified write end of the command in progress: its working change, and the response on Link S (R152, R168). -/
theorem State.commandWriteEnd_done {w : CommandWrite} {tag : Byte} {apply : CommandWrite → Option (State → State)}
    {f : State → State} (hw : s.writing w tag) (ha : apply w = some f) (hport : (f (s.endWrite true)).portS = s.portS) :
    s.whenRunning (fun s => s.commandWriteEnd true apply) = (f (s.endWrite true)).completes tag .done := by
  obtain ⟨hp, hactive, ⟨c, he⟩, hn⟩ := hw
  obtain ⟨⟨job, image, replaced⟩, hactive, hj⟩ := Option.map_eq_some_iff.mp hactive
  cases hj
  rw [State.whenRunning, if_pos hp, State.commandWriteEnd, hactive]
  simp only [ha, if_true]
  refine State.finishCommand_of_answers (c := c) _ .done (by rw [hport, he]) ?_
  change (f (s.endWrite true)).portS.responses.length < 4
  rw [hport]
  exact hn

/-- The record a command was about is found where the identity alone stands (log 27). -/
theorem State.follow_eq_some {i j : DevIx} {identity : BitVec 24} (hv : (s.dev j).life ≠ .vacant)
    (hi : (s.dev j).identity = identity)
    (alone : ∀ k, (s.dev k).life ≠ .vacant → (s.dev k).identity = identity → k = j) :
    s.follow i identity = some j := by
  unfold State.follow
  split
  · next h => rw [alone i h.1 h.2]
  · have held : (s.holder identity).isSome = true := by
      by_contra none
      exact State.holder_eq_none.mp (by simpa using none) j hv hi
    obtain ⟨k, hk⟩ := Option.isSome_iff_exists.mp held
    obtain ⟨hkv, hki⟩ := State.holder_some hk
    rw [hk, alone k hkv hki]

theorem State.follow_eq_none {i : DevIx} {identity : BitVec 24}
    (gone : ∀ k, (s.dev k).life ≠ .vacant → (s.dev k).identity ≠ identity) : s.follow i identity = none := by
  unfold State.follow
  rw [if_neg fun h => gone i h.1 h.2]
  exact State.holder_eq_none.mpr gone

/-- Whom a command is about does not depend on store-outstanding flags. -/
theorem State.endWrite_follow (s : State) (v : Bool) (i : DevIx) (identity : BitVec 24) :
    (s.endWrite v).follow i identity = s.follow i identity := by
  have life : ∀ k, ((s.endWrite v).dev k).life = (s.dev k).life := fun k => by
    obtain ⟨on, e⟩ := s.endWrite_dev v k
    rw [e]
  have same : ∀ k, ((s.endWrite v).dev k).identity = (s.dev k).identity := fun k => by
    obtain ⟨on, e⟩ := s.endWrite_dev v k
    rw [e]
  simp only [State.follow, State.holder, State.findDev, life, same]

/-- A pin applied to two route positions, position by position (R56, R59). -/
theorem RoutePair.pin_eq (x : RoutePair) (p : Path) : x.pin p = routesPinned x p := by
  obtain ⟨first, second⟩ := x
  rcases first with _ | a
  · rcases second with _ | b
    · rfl
    · by_cases hb : b.path = p <;>
        simp [RoutePair.pin, RoutePair.find, RoutePair.update, RoutePair.place, routesPinned, hb]
  · rcases second with _ | b
    · by_cases ha : a.path = p <;>
        simp [RoutePair.pin, RoutePair.find, RoutePair.update, RoutePair.place, routesPinned, ha]
    · by_cases ha : a.path = p
      · simp [RoutePair.pin, RoutePair.find, RoutePair.update, routesPinned, ha]
      · by_cases hb : b.path = p
        · simp [RoutePair.pin, RoutePair.find, RoutePair.update, routesPinned, ha, hb]
        · have placed : ({ first := some a, second := some b } : RoutePair).pin p =
              ({ first := some a, second := some b } : RoutePair).place
                { path := p, quality := 0, age := 0, delivered := false, pinned := true } := by
            simp [RoutePair.pin, RoutePair.find, ha, hb]
          rw [placed]
          simp only [RoutePair.place, replacesFirst, routesPinned, ha, hb, or_self, if_false]
          by_cases pa : a.pinned = true
          · by_cases pb : b.pinned = true <;> simp [pa, pb]
          · by_cases pb : b.pinned = true
            · simp [pa, pb]
            · by_cases q : a.quality = b.quality
              · by_cases g : b.age < a.age <;> simp [pa, pb, q, g]
              · by_cases g : a.quality < b.quality <;> simp [pa, pb, q, g]

theorem RoutePair.unpin_eq (x : RoutePair) (p : Path) : x.unpin p = routesUnpinned x p := rfl

/-- The flags of a change whose record was transferred during the write: both indices (R59). -/
theorem State.markOutstanding_pair (s : State) (i j : DevIx) : s.markOutstanding [i, j] true =
    s.mapDevs fun k d => if k = i ∨ k = j then { d with outstanding := true } else d := by
  simp only [State.markOutstanding, List.mem_cons, List.not_mem_nil, or_false]

theorem State.routesWrite_eq {i j : DevIx} {identity : BitVec 24} (f : RoutePair → RoutePair)
    (hj : s.follow i identity = some j) : s.routesWrite i identity f =
      if j = i then s.setDev j { s.dev j with routes := f (s.dev j).routes }
      else (s.setDev j { s.dev j with routes := f (s.dev j).routes }).mapDevs
        fun k d => if k = i ∨ k = j then { d with outstanding := true } else d := by
  simp only [State.routesWrite, hj, State.modDev_eq, State.markOutstanding_pair]

theorem State.routesWrite_none {i : DevIx} {identity : BitVec 24} (f : RoutePair → RoutePair)
    (hj : s.follow i identity = none) : s.routesWrite i identity f = s := by
  simp only [State.routesWrite, hj]

theorem State.removedWrite_eq {i j : DevIx} {identity : BitVec 24} (hj : s.follow i identity = some j) :
    s.removedWrite i identity = s.removed j := by
  simp only [State.removedWrite, hj]

theorem State.removedWrite_none {i : DevIx} {identity : BitVec 24} (hj : s.follow i identity = none) :
    s.removedWrite i identity = s := by
  simp only [State.removedWrite, hj]

theorem State.removed_portS (s : State) (j : DevIx) : (s.removed j).portS = s.portS := by
  simp only [State.removed]
  split
  · simp [State.dropRelay]
  · simp

theorem State.routesWrite_portS (s : State) (i : DevIx) (identity : BitVec 24) (f : RoutePair → RoutePair) :
    (s.routesWrite i identity f).portS = s.portS := by
  cases hj : s.follow i identity with
  | none => rw [State.routesWrite_none f hj]
  | some j =>
    rw [State.routesWrite_eq f hj]
    split
    · rfl
    · simp

/-- Settles O25: a verified write end is the working change of its command on the record found by its identity, and the
response DONE. -/
theorem deviceWriteEnds : Obligations.DeviceWriteEnds := by
  refine ⟨fun s i e tag hw => ?_, fun s i identity relay tag hw => ⟨fun gone => ?_, fun j hv hi alone => ?_⟩,
    fun s i j identity p tag hv hi alone => ?_, fun s i identity p tag gone => ?_⟩
  · refine congrArg Host.Outcome.next ((State.commandWriteEnd_done hw rfl ?_).trans ?_)
    · simp [State.enrolled]
    · simp only [State.enrolled, State.modDev_eq, State.endWrite_runClock]
      rfl
  · have none := (s.endWrite_follow true i identity).trans (State.follow_eq_none gone)
    refine congrArg Host.Outcome.next ((State.commandWriteEnd_done hw rfl ?_).trans ?_)
    · rw [State.removedWrite_none none, State.endWrite_portS]
    · rw [State.removedWrite_none none]
  · have found := (s.endWrite_follow true i identity).trans (State.follow_eq_some hv hi alone)
    refine congrArg Host.Outcome.next ((State.commandWriteEnd_done hw rfl ?_).trans ?_)
    · rw [State.removedWrite_eq found, State.removed_portS, State.endWrite_portS]
    · rw [State.removedWrite_eq found]
      obtain ⟨on, same⟩ := s.endWrite_dev true j
      simp only [State.removed, same]
      split
      · rfl
      · rfl
  · have found := (s.endWrite_follow true i identity).trans (State.follow_eq_some hv hi alone)
    obtain ⟨on, same⟩ := s.endWrite_dev true j
    have routes : ((s.endWrite true).dev j).routes = (s.dev j).routes := by rw [same]
    refine ⟨fun hw => ?_, fun hw => ?_⟩
    · refine congrArg Host.Outcome.next ((State.commandWriteEnd_done hw rfl ?_).trans ?_)
      · rw [State.routesWrite_portS, State.endWrite_portS]
      · rw [State.routesWrite_eq _ found, routes, RoutePair.pin_eq]
    · refine congrArg Host.Outcome.next ((State.commandWriteEnd_done hw rfl ?_).trans ?_)
      · rw [State.routesWrite_portS, State.endWrite_portS]
      · rw [State.routesWrite_eq _ found, routes, RoutePair.unpin_eq]
  · have none := (s.endWrite_follow true i identity).trans (State.follow_eq_none gone)
    refine ⟨fun hw => ?_, fun hw => ?_⟩
    · refine congrArg Host.Outcome.next ((State.commandWriteEnd_done hw rfl ?_).trans ?_)
      · rw [State.routesWrite_portS, State.endWrite_portS]
      · rw [State.routesWrite_none _ none]
    · refine congrArg Host.Outcome.next ((State.commandWriteEnd_done hw rfl ?_).trans ?_)
      · rw [State.routesWrite_portS, State.endWrite_portS]
      · rw [State.routesWrite_none _ none]

end Sys2Proof.Machine

/-! ## The image of a command write (R168) -/

namespace Sys2Proof.Machine

variable {s : State}

theorem pinnedPath_eq (r : Option Route) : pinnedPath r = pathIfPinned r := by
  cases r with
  | none => rfl
  | some r => by_cases h : r.pinned <;> simp [pinnedPath, pathIfPinned, h]

/-- The stored entry of a record's working content, field by field (R167, R168). -/
theorem Device.stored_eq (d : Device) : d.stored = d.configured := by
  simp only [Device.stored, Device.configured, pinnedPath_eq]

theorem vector_getElem_set {α : Type} {n : Nat} (v : Vector α n) (i k : Fin n) (x : α) :
    (v.set i x)[k] = if k = i then x else v[k] := by
  simp only [Fin.getElem_fin, Vector.getElem_set, Fin.ext_iff, eq_comm]

theorem vector_getElem_ofFn {α : Type} {n : Nat} (f : Fin n → α) (k : Fin n) : (Vector.ofFn f)[k] = f k := by simp

theorem StoredEntry.pins_iff {e : StoredEntry} {p : Path} :
    e.pins p = true ↔ e.pinFirst = some p ∨ e.pinSecond = some p := by simp [StoredEntry.pins]

/-- Where a pin's route is stored: beside the only one stored, or else in the position its path takes (log 13). -/
theorem StoredEntry.addPin_eq (e : StoredEntry) (p : Path) (x : RoutePair) : e.addPin p x =
    if e.pinFirst = some p ∨ e.pinSecond = some p then e
    else
      match e.pinFirst, e.pinSecond with
      | none, some _ => { e with pinFirst := some p }
      | some _, none => { e with pinSecond := some p }
      | _, _ => if (x.second.map fun r => r.path) = some p then { e with pinSecond := some p }
        else { e with pinFirst := some p } := by
  have second : (x.second.any fun r => decide (r.path = p)) = true ↔ (x.second.map fun r => r.path) = some p := by
    cases x.second <;> simp
  simp only [StoredEntry.addPin, StoredEntry.pins_iff, second]
  split
  · rfl
  · cases hf : e.pinFirst <;> cases hs : e.pinSecond <;> rfl

/-- The indices that a removal erases: the command's, and where the record stands (logs 27, 33). -/
theorem State.mem_removedIndices {i k : DevIx} {identity : BitVec 24} :
    k ∈ s.removedIndices i identity ↔ k = i ∨ s.follow i identity = some k := by
  simp [State.removedIndices, Option.mem_toList]

/-- The entry of an index in the image of a removal. -/
theorem State.removeImage_roster (s : State) (i k : DevIx) (identity : BitVec 24) (relay : Option Path) :
    (s.commandImage (.remove i identity relay)).roster[k] =
      if k ∈ s.removedIndices i identity then none
      else match relay with
        | some p => if (s.baseImage.roster[k]).any (·.pins p) then (s.restOf k).map (·.dropPin p)
          else s.baseImage.roster[k]
        | none => s.baseImage.roster[k] :=
  vector_getElem_ofFn _ k

theorem State.removeImage_sections (s : State) (i : DevIx) (identity : BitVec 24) (relay : Option Path) :
    (s.commandImage (.remove i identity relay)).zones = s.baseImage.zones ∧
      (s.commandImage (.remove i identity relay)).channels = s.baseImage.channels ∧
        (s.commandImage (.remove i identity relay)).site = s.baseImage.site := by
  simp only [State.commandImage, and_self]

/-- What a new image starts from (R168). -/
theorem State.baseImage_of_some {im : Image} (h : s.store.inForce = some im) :
    s.baseImage = { im with number := im.number + 1 } := by simp only [State.baseImage, h]

theorem State.baseImage_of_none (h : s.store.inForce = none) : s.baseImage = s.workingImage := by
  simp only [State.baseImage, h]

theorem State.commandImage_number (s : State) (w : CommandWrite) :
    (s.commandImage w).number = s.baseImage.number := by
  cases w <;> simp only [State.commandImage]

/-- Settles O28: what the base image holds is the old content, and each command replaces its own records in it. -/
theorem commandImageReplacesItsRecords : Obligations.CommandImageReplacesItsRecords := by
  intro s w new force working old rest drop stands rosterIs zonesAre channelsAre siteIs sections at'
  have stored : ∀ i, s.baseImage.roster[i] = old i := by
    intro i
    cases hf : s.store.inForce with
    | none => simp [State.baseImage_of_none hf, State.workingImage, old, force, hf, working, Device.stored_eq]
    | some im => simp [State.baseImage_of_some hf, old, force, hf]
  have roster : ∀ changed, (∀ k, new.roster[k] = (changed k).getD s.baseImage.roster[k]) → rosterIs changed :=
    fun changed h k => by rw [h k, stored]
  have zones : ∀ changed, (∀ z, new.zones[z] = (changed z).getD s.baseImage.zones[z]) → zonesAre changed := by
    intro changed h z
    rw [h z]
    cases hf : s.store.inForce with
    | none => simp [State.baseImage_of_none hf, State.workingImage, force, hf]
    | some im => simp [State.baseImage_of_some hf, force, hf]
  have channels : ∀ changed, (∀ c, new.channels[c] = (changed c).getD s.baseImage.channels[c]) →
      channelsAre changed := by
    intro changed h c
    rw [h c]
    cases hf : s.store.inForce with
    | none => simp [State.baseImage_of_none hf, State.workingImage, force, hf]
    | some im => simp [State.baseImage_of_some hf, force, hf]
  have site : ∀ changed, new.site = changed.getD s.baseImage.site → siteIs changed := by
    intro changed h
    change new.site = _
    rw [h]
    cases hf : s.store.inForce with
    | none => simp [State.baseImage_of_none hf, State.workingImage, force, hf]
    | some im => simp [State.baseImage_of_some hf, force, hf]
  have others : ∀ r, new.zones = s.baseImage.zones → new.channels = s.baseImage.channels →
      new.site = s.baseImage.site → r → sections r := fun r hz hc hs hr =>
    ⟨hr, zones _ fun z => by rw [hz]; rfl, channels _ fun c => by rw [hc]; rfl, site _ hs⟩
  have restOf : ∀ i, s.restOf i = rest i := fun i => by
    simp only [rest, State.restOf, stored, Device.stored_eq, working]
  refine ⟨?_, ?_⟩
  · rw [show new.number = s.baseImage.number from s.commandImage_number w]
    cases hf : s.store.inForce with
    | none => simp [State.baseImage_of_none hf, State.workingImage, force, hf]
    | some im => simp [State.baseImage_of_some hf, force, hf]
  cases w with
  | enrol i e =>
    refine others _ rfl rfl rfl (roster _ fun k => (vector_getElem_set _ i k _).trans ?_)
    simp only [at']
    split <;> rfl
  | remove i identity relay =>
    have erased : ∀ gone : DevIx → Bool, (∀ k, k ∈ s.removedIndices i identity ↔ gone k = true) →
        sections (rosterIs fun k => if gone k then some none else
          match relay with
          | some p => if (old k).any fun e => decide (e.pinFirst = some p ∨ e.pinSecond = some p) then
              some ((rest k).map (drop p)) else none
          | none => none) := by
      intro gone hg
      obtain ⟨hz, hc, hsite⟩ := s.removeImage_sections i identity relay
      refine others _ hz hc hsite (roster _ fun k => (s.removeImage_roster i k identity relay).trans ?_)
      have pinned : ∀ p, ((s.baseImage.roster[k]).any (·.pins p)) =
          (old k).any fun e => decide (e.pinFirst = some p ∨ e.pinSecond = some p) := by
        intro p
        rw [stored, Bool.eq_iff_iff]
        cases old k <;> simp [StoredEntry.pins_iff]
      simp only [hg, pinned, restOf]
      split
      · rfl
      · cases relay with
        | none => rfl
        | some p =>
          dsimp only
          split <;> rfl
    refine ⟨fun absent => erased _ fun k => ?_, fun j ⟨hv, hi, alone⟩ => erased _ fun k => ?_⟩
    · simp [State.mem_removedIndices, State.follow_eq_none absent]
    · simp [State.mem_removedIndices, State.follow_eq_some hv hi alone, eq_comm (a := j)]
  | pin i identity p =>
    rintro j ⟨hv, hi, alone⟩
    refine others _ rfl rfl rfl (roster _ fun k => (vector_getElem_set _ i k _).trans ?_)
    have routes : (s.routesOf i identity).pin p = routesPinned (s.dev j).routes p := by
      simp only [State.routesOf, State.follow_eq_some hv hi alone, RoutePair.pin_eq]
    rw [routes, restOf]
    simp only [at', StoredEntry.addPin_eq]
    split <;> rfl
  | unpin i identity p =>
    refine others _ rfl rfl rfl (roster _ fun k => (vector_getElem_set _ i k _).trans ?_)
    rw [restOf]
    simp only [at']
    split <;> rfl
  | zone z ps =>
    refine ⟨roster _ fun _ => rfl, zones _ fun y => (vector_getElem_set _ z y _).trans ?_, channels _ fun _ => rfl,
      site _ rfl⟩
    split <;> rfl
  | site ps => exact ⟨roster _ fun _ => rfl, zones _ fun _ => rfl, channels _ fun _ => rfl, site _ rfl⟩
  | channel c ch =>
    refine ⟨roster _ fun _ => rfl, zones _ fun _ => rfl, channels _ fun b => (vector_getElem_set _ c b _).trans ?_,
      site _ rfl⟩
    split <;> rfl

end Sys2Proof.Machine

/-! ## Frames of events and of roster requests -/

namespace Sys2Proof.Machine

variable {s t u : State}

/-! ### Events -/

theorem State.sameEvents_refl (s : State) : s.sameEvents s := ⟨rfl, rfl, rfl, rfl⟩

theorem State.sameEvents.trans (h : s.sameEvents t) (h' : t.sameEvents u) : s.sameEvents u := by
  obtain ⟨he, hn, ha, hb⟩ := h
  obtain ⟨he', hn', ha', hb'⟩ := h'
  exact ⟨he'.trans he, hn'.trans hn, ha'.trans ha, hb'.trans hb⟩

/-- Storing an event reads and changes the stored events and the panel links alone (R135 to R137). -/
theorem State.sameEvents_storeEvent (e : Event) (h : s.sameEvents t) :
    (s.storeEvent e).sameEvents (t.storeEvent e) := by
  obtain ⟨he, hn, ha, hb⟩ := h
  have lost : ∀ v, (s.raiseLost v).sameEvents (t.raiseLost v) := by
    intro v
    simp only [State.sameEvents, State.raiseLost, he, hn, ha, hb, and_self]
  have kept : ∀ v es, ({ s.raiseLost v with events := es } : State).sameEvents { t.raiseLost v with events := es } := by
    intro v es
    obtain ⟨-, hn, ha, hb⟩ := lost v
    exact ⟨rfl, hn, ha, hb⟩
  unfold State.storeEvent
  rw [he]
  split
  · exact ⟨rfl, hn, ha, hb⟩
  · split
    · exact lost e
    · split
      · exact lost e
      · exact kept _ _

/-- Creating an event reads and changes the stored events, the next sequence number, Site Time and the panel links
alone (R131 to R137). -/
theorem State.sameEvents_create (b : EventBody) (h : s.sameEvents t) (ht : t.siteTime = s.siteTime) :
    (s.create b).sameEvents (t.create b) := by
  obtain ⟨he, hn, ha, hb⟩ := h
  have same : t.newEvent b = s.newEvent b := by simp [State.newEvent, State.attachedSet, hn, ha, hb, ht]
  have next : ({ s with nextSeq := s.nextSeq + 1 } : State).sameEvents { t with nextSeq := t.nextSeq + 1 } :=
    ⟨he, by rw [hn], ha, hb⟩
  rw [State.create_eq, State.create_eq, same]
  split
  · exact next
  · exact State.sameEvents_storeEvent _ next

theorem State.sameEvents_createAll (bs : List EventBody) (h : s.sameEvents t) (ht : t.siteTime = s.siteTime) :
    (s.createAll bs).sameEvents (t.createAll bs) := by
  induction bs generalizing s t with
  | nil => exact h
  | cons b bs ih => exact ih (State.sameEvents_create b h ht) (by simp [ht])

theorem State.createAll_append (s : State) (as bs : List EventBody) :
    s.createAll (as ++ bs) = (s.createAll as).createAll bs := List.foldl_append

/-- An event raises lost flags of the panel links at most (R137). -/
theorem State.storeEvent_panels (s : State) (e : Event) :
    (s.storeEvent e).panelA = { s.panelA with lost := (s.storeEvent e).panelA.lost } ∧
      (s.storeEvent e).panelB = { s.panelB with lost := (s.storeEvent e).panelB.lost } := by
  have lost : ∀ v, (s.raiseLost v).panelA = { s.panelA with lost := (s.raiseLost v).panelA.lost } ∧
      (s.raiseLost v).panelB = { s.panelB with lost := (s.raiseLost v).panelB.lost } := by
    intro v
    simp only [State.raiseLost]
    constructor <;> split <;> rfl
  rcases s.storeEvent_cases e with ⟨-, h⟩ | ⟨-, h⟩ | ⟨-, c, v, -, -, h⟩
  · rw [h]; exact ⟨rfl, rfl⟩
  · rw [h]; exact lost e
  · rw [h]; exact lost v

theorem State.create_panels (s : State) (b : EventBody) :
    (s.create b).panelA = { s.panelA with lost := (s.create b).panelA.lost } ∧
      (s.create b).panelB = { s.panelB with lost := (s.create b).panelB.lost } := by
  rw [State.create_eq]
  split
  · exact ⟨rfl, rfl⟩
  · exact State.storeEvent_panels _ _

/-! ### Links and clocks -/

theorem State.keepsLinks_refl (s : State) : s.keepsLinks s := ⟨rfl, rfl, rfl, rfl, rfl, rfl, rfl, rfl, rfl⟩

theorem State.keepsLinks.trans (h : s.keepsLinks t) (h' : t.keepsLinks u) : s.keepsLinks u := by
  obtain ⟨hp, hk, hs, ha, hb, hS, hq, hpa, hpb⟩ := h
  obtain ⟨hp', hk', hs', ha', hb', hS', hq', hpa', hpb'⟩ := h'
  refine ⟨hp'.trans hp, hk'.trans hk, hs'.trans hs, ha'.trans ha, hb'.trans hb, hS'.trans hS, hq'.trans hq, ?_, ?_⟩
  · rw [hpa', hpa]
  · rw [hpb', hpb]

theorem State.keepsLinks_create (s : State) (b : EventBody) : s.keepsLinks (s.create b) := by
  obtain ⟨ha, hb⟩ := s.create_panels b
  exact ⟨by simp, by simp, by simp, by simp, by simp, by simp, by simp, ha, hb⟩

theorem State.keepsLinks_createAll (s : State) (bs : List EventBody) : s.keepsLinks (s.createAll bs) := by
  induction bs generalizing s with
  | nil => exact s.keepsLinks_refl
  | cons b bs ih => exact (s.keepsLinks_create b).trans (ih _)

theorem State.keepsClocks_refl (s : State) : s.keepsClocks s := ⟨rfl, rfl, rfl⟩

theorem State.keepsClocks.trans (h : s.keepsClocks t) (h' : t.keepsClocks u) : s.keepsClocks u := by
  obtain ⟨hr, hs, ht⟩ := h
  obtain ⟨hr', hs', ht'⟩ := h'
  exact ⟨hr'.trans hr, hs'.trans hs, ht'.trans ht⟩

theorem State.keepsClocks_create (s : State) (b : EventBody) : s.keepsClocks (s.create b) :=
  ⟨by simp, by simp, by simp⟩

theorem State.keepsClocks_createAll (s : State) (bs : List EventBody) : s.keepsClocks (s.createAll bs) :=
  ⟨by simp, by simp, by simp⟩

/-! ### Roster requests (R4, R169, R170) -/

/-- A roster request changes records and the store alone. -/
theorem State.requestRoster_eq (s : State) (ixs : List DevIx) : s.requestRoster ixs =
    { s with roster := (s.requestRoster ixs).roster, store := (s.requestRoster ixs).store } := by
  rcases s.requestRoster_cases ixs with ⟨-, e⟩ | ⟨-, e⟩ | ⟨-, e⟩
  · rw [e]
  · rw [e]
    rcases s.requestWrite_cases (.roster ixs) with ⟨-, -, e⟩ | e
    · rw [e]; rfl
    · rw [e]
  · rw [e, State.markOutstanding, State.mapDevs]

theorem State.requestRoster_dev_idle (hr : s.restart = .idle) (ixs : List DevIx) (i : DevIx) :
    (s.requestRoster ixs).dev i = s.dev i := by
  rcases s.requestRoster_cases ixs with ⟨-, e⟩ | ⟨-, e⟩ | ⟨hne, -⟩
  · rw [e]
  · rw [e, State.dev, State.requestWrite_roster, State.dev]
  · exact absurd hr hne

theorem State.requestRoster_restarting (hr : s.restart ≠ .idle) (ixs : List DevIx) :
    (s.requestRoster ixs).store = s.store ∧ ∀ i, (s.requestRoster ixs).dev i =
      if i ∈ ixs then { s.dev i with outstanding := true } else s.dev i := by
  rcases s.requestRoster_cases ixs with ⟨rfl, e⟩ | ⟨hi, -⟩ | ⟨-, e⟩
  · rw [e]; exact ⟨rfl, fun i => by simp⟩
  · exact absurd hi hr
  · rw [e]; exact ⟨by simp, fun i => s.markOutstanding_dev ixs true i⟩

/-- A waiting request of a queue, or the one that gathers its indices after another request (R169). -/
theorem mem_joinWaiting_roster {waiting : List WriteJob} {old : List DevIx} (j : WriteJob)
    (h : .roster old ∈ waiting) : ∃ new, .roster new ∈ joinWaiting waiting j ∧ ∀ k ∈ old, k ∈ new := by
  cases j with
  | command w => exact ⟨old, List.mem_append_left _ h, fun _ => id⟩
  | roster ixs =>
    simp only [joinWaiting]
    split
    · exact ⟨_, List.mem_map.mpr ⟨_, h, rfl⟩, fun k hk => List.mem_append_left _ hk⟩
    · exact ⟨old, List.mem_append_left _ h, fun _ => id⟩

/-- The indices of a roster request wait together after it (R169). -/
theorem joinWaiting_roster_covers (waiting : List WriteJob) (ixs : List DevIx) :
    ∃ new, .roster new ∈ joinWaiting waiting (.roster ixs) ∧ ∀ k ∈ ixs, k ∈ new := by
  simp only [joinWaiting]
  split
  · next h =>
    obtain ⟨j, hj, hr⟩ := List.any_eq_true.mp h
    cases j with
    | command w => cases hr
    | roster old =>
      refine ⟨_, List.mem_map.mpr ⟨_, hj, rfl⟩, fun k hk => ?_⟩
      by_cases ho : k ∈ old
      · exact List.mem_append_left _ ho
      · exact List.mem_append_right _ (by simp [hk, ho])
  · exact ⟨ixs, by simp, fun _ => id⟩

/-- A roster write of index k is in progress or waiting. -/
def State.covers (s : State) (k : DevIx) : Prop := ∃ j ∈ s.store.jobs, ∃ ixs, j = .roster ixs ∧ k ∈ ixs

/-- The indices of a roster request are covered by one roster write (R4). -/
theorem State.requestRoster_covers {ixs : List DevIx} (hr : s.restart = .idle) (hne : ixs ≠ []) :
    ∃ new, .roster new ∈ (s.requestRoster ixs).store.jobs ∧ ∀ k ∈ ixs, k ∈ new := by
  rcases s.requestRoster_cases ixs with ⟨h, -⟩ | ⟨-, e⟩ | ⟨h, -⟩
  · exact absurd h hne
  · rw [e]
    rcases s.requestWrite_cases (.roster ixs) with ⟨-, -, e⟩ | e
    · rw [e, State.startWrite_jobs]; exact ⟨ixs, by simp, fun _ => id⟩
    · rw [e]
      obtain ⟨new, hn, hc⟩ := joinWaiting_roster_covers s.store.waiting ixs
      exact ⟨new, List.mem_append_right _ hn, hc⟩
  · exact absurd hr h

/-- A roster request leaves every index covered that was. -/
theorem State.covers.requestRoster {k : DevIx} (h : s.covers k) (ixs : List DevIx) :
    (s.requestRoster ixs).covers k := by
  obtain ⟨j, hj, old, rfl, hk⟩ := h
  rcases s.requestRoster_cases ixs with ⟨-, e⟩ | ⟨-, e⟩ | ⟨-, e⟩
  · rw [e]; exact ⟨_, hj, old, rfl, hk⟩
  · rw [e]
    rcases s.requestWrite_cases (.roster ixs) with ⟨ha, hw, e⟩ | e
    · simp [Store.jobs, ha, hw] at hj
    · rw [e]
      rcases List.mem_append.mp hj with hj | hj
      · exact ⟨_, List.mem_append_left _ hj, old, rfl, hk⟩
      · obtain ⟨new, hn, hc⟩ := mem_joinWaiting_roster (.roster ixs) hj
        exact ⟨_, List.mem_append_right _ hn, new, rfl, hc k hk⟩
  · rw [e]; exact ⟨_, by simpa using hj, old, rfl, hk⟩

/-! ## The enrolment deadline (R11) -/

theorem State.deadlineReached_iff {i : DevIx} : s.deadlineReached i = true ↔
    (s.dev i).life = .enrolling ∧ ∃ t, (s.dev i).deadline = some t ∧ t ≤ s.runClock := by
  cases h : (s.dev i).deadline <;> simp [State.deadlineReached, h]

/-- A device names a relay number when one of its two route entries is for it (R54). -/
theorem Device.names_iff {d : Device} {p : Path} : d.names p = true ↔
    ∃ r ∈ d.routes.first.toList ++ d.routes.second.toList, r.path = p := by
  cases hr : d.routes with
  | mk first second =>
    cases first with
    | none => cases second <;> simp [Device.names, hr, RoutePair.find]
    | some a =>
      cases second with
      | none => simp [Device.names, hr, RoutePair.find]
      | some b => by_cases ha : a.path = p <;> simp [Device.names, hr, RoutePair.find, ha]

theorem State.mem_timeOutSet {i k : DevIx} : k ∈ s.timeOutSet i ↔
    k = i ∨ ((s.dev i).kind = .repeater ∧ (s.dev k).names (s.dev i).relay = true) := by
  simp [State.timeOutSet, mem_allDevs]

/-- The records a time-out leaves before its request: the index Vacant, and the route entries on its relay number
deleted. -/
def State.timedOut (s : State) (i : DevIx) : State :=
  if (s.dev i).kind = .repeater then (s.setDev i (s.dev i).vacated).dropRelay i (s.dev i).relay
  else s.setDev i (s.dev i).vacated

theorem State.timeOut_eq (s : State) (i : DevIx) :
    s.timeOut i = ((s.timedOut i).requestRoster (s.timeOutSet i)).create (.enrolmentTimedOut i) := rfl

theorem State.timedOut_eq (s : State) (i : DevIx) : s.timedOut i = { s with roster := (s.timedOut i).roster } := by
  unfold State.timedOut
  split
  · simp only [State.dropRelay, State.mapDevs, State.setDev]
  · rfl

theorem State.timedOut_dev (s : State) (i k : DevIx) : (s.timedOut i).dev k =
    if k = i then (s.dev i).vacated
    else if (s.dev i).kind = .repeater then { s.dev k with routes := (s.dev k).routes.drop (s.dev i).relay }
    else s.dev k := by
  unfold State.timedOut
  by_cases hr : (s.dev i).kind = .repeater
  · simp only [hr, if_true, State.dropRelay, State.dev_mapDevs, State.dev_setDev]
    split
    · rfl
    · rfl
  · simp only [hr, if_false, State.dev_setDev]

/-- What a time-out leaves of the state beside records, store and events. -/
theorem State.timeOut_frame (s : State) (i : DevIx) : s.keepsLinks (s.timeOut i) ∧ s.keepsClocks (s.timeOut i) ∧
    (s.timeOut i).time = s.time ∧ (s.timeOut i).zones = s.zones ∧ (s.timeOut i).siteCount = s.siteCount ∧
      (s.timeOut i).cells = s.cells ∧ (s.create (.enrolmentTimedOut i)).sameEvents (s.timeOut i) := by
  rw [State.timeOut_eq]
  have frame : ∃ ros st, (s.timedOut i).requestRoster (s.timeOutSet i) = { s with roster := ros, store := st } := by
    rw [State.requestRoster_eq, State.timedOut_eq]
    exact ⟨_, _, rfl⟩
  obtain ⟨ros, st, e⟩ := frame
  rw [e]
  refine ⟨State.keepsLinks.trans ⟨rfl, rfl, rfl, rfl, rfl, rfl, rfl, rfl, rfl⟩ (State.keepsLinks_create _ _),
    State.keepsClocks.trans ⟨rfl, rfl, rfl⟩ (State.keepsClocks_create _ _), by simp, by simp, by simp, by simp,
    State.sameEvents_create _ ⟨rfl, rfl, rfl, rfl⟩ rfl⟩

/-- Settles O50: the deadline's guard decides, and the time-out is read record by record through the request of its
write. -/
theorem deadlineVacatesEnrolling : Obligations.DeadlineVacatesEnrolling := by
  intro s i hp d reached
  have runs : exec (.enrolmentDeadline i) s = .next (if s.deadlineReached i then s.timeOut i else s) := by
    change Host.Outcome.next (s.whenRunning fun s => if s.deadlineReached i then s.timeOut i else s) = _
    rw [State.whenRunning, if_pos hp]
  refine ⟨fun hn => ?_, fun hr => ?_⟩
  · rw [runs, if_neg fun h => hn (State.deadlineReached_iff.mp h)]
  · rw [if_pos (State.deadlineReached_iff.mpr hr)] at runs
    obtain ⟨links, clocks, time, zones, count, cells, events⟩ := s.timeOut_frame i
    have restart : (s.timedOut i).restart = s.restart := by rw [State.timedOut_eq]
    have store : (s.timedOut i).store = s.store := by rw [State.timedOut_eq]
    have self : i ∈ s.timeOutSet i := State.mem_timeOutSet.mpr (.inl rfl)
    have listed : ∀ k, k ≠ i → (k ∈ s.timeOutSet i ↔ d.kind = .repeater ∧
        ∃ r ∈ (s.dev k).routes.first.toList ++ (s.dev k).routes.second.toList, r.path = d.relay) := by
      intro k hk
      simp only [State.mem_timeOutSet, hk, false_or, Device.names_iff]
      rfl
    refine ⟨s.timeOut i, runs, links, clocks, time, zones, count, cells, events, ?_⟩
    by_cases hidle : s.restart = .idle
    · have dev : ∀ k, (s.timeOut i).dev k = (s.timedOut i).dev k := fun k => by
        rw [State.timeOut_eq, State.create_dev, State.requestRoster_dev_idle (restart.trans hidle)]
      obtain ⟨new, hnew, hcov⟩ := State.requestRoster_covers (ixs := s.timeOutSet i) (restart.trans hidle)
        (List.ne_nil_of_mem self)
      refine ⟨?_, fun _ => ⟨_, by rw [State.timeOut_eq, State.create_store]; exact hnew, new, rfl, hcov i self,
        fun k hk => hcov k (State.mem_timeOutSet.mpr (.inr ⟨hk.1, Device.names_iff.mpr hk.2⟩))⟩,
        fun h => absurd hidle h, fun k hk => ?_⟩
      · rw [dev, State.timedOut_dev, if_pos rfl, if_pos hidle]; rfl
      · rw [dev, State.timedOut_dev, if_neg hk]
        simp only [hidle, ne_eq, not_true_eq_false, false_and, decide_false, Bool.or_false]
        rfl
    · obtain ⟨hst, hdev⟩ := State.requestRoster_restarting (s := s.timedOut i) (by rwa [restart]) (s.timeOutSet i)
      have dev : ∀ k, (s.timeOut i).dev k = if k ∈ s.timeOutSet i then
          { (s.timedOut i).dev k with outstanding := true } else (s.timedOut i).dev k := fun k => by
        rw [State.timeOut_eq, State.create_dev, hdev]
      refine ⟨?_, fun h => absurd h hidle, fun _ => by rw [State.timeOut_eq, State.create_store, hst, store],
        fun k hk => ?_⟩
      · rw [dev, if_pos self, State.timedOut_dev, if_pos rfl, if_neg hidle]; rfl
      · rw [dev, State.timedOut_dev, if_neg hk]
        by_cases hrep : d.kind = .repeater
        · by_cases hl : k ∈ s.timeOutSet i
          · have loses := (listed k hk).mp hl
            rw [if_pos hl, if_pos hrep, if_pos hrep, decide_eq_true ⟨hidle, loses⟩, Bool.or_true]
            rfl
          · have keeps := mt (listed k hk).mpr hl
            rw [if_neg hl, if_pos hrep, if_pos hrep, decide_eq_false fun h => keeps h.2, Bool.or_false]
            rfl
        · have unlisted : k ∉ s.timeOutSet i := fun h => hrep ((listed k hk).mp h).1
          rw [if_neg unlisted, if_neg hrep, if_neg hrep]

end Sys2Proof.Machine

/-! ## Downlinks (R38 to R40, R9) -/

namespace Sys2Proof.Machine

variable {s t u : State}

/-! ### The tick and repeated changes of one cell -/

@[simp] theorem State.atTick_dev (s : State) (k : Fin 8192) (i : DevIx) : (s.atTick k).dev i = s.dev i := rfl
@[simp] theorem State.atTick_cell (s : State) (k : Fin 8192) (c : CellIx) : (s.atTick k).cell c = s.cell c := rfl
@[simp] theorem State.atTick_zone (s : State) (k : Fin 8192) (z : ZoneIx) : (s.atTick k).zone z = s.zone z := rfl
@[simp] theorem State.atTick_interval (s : State) (k : Fin 8192) :
    (s.atTick k).time.interval = s.time.interval := rfl

@[simp] theorem State.setCell_setCell (s : State) (c : CellIx) (a b : Cell) :
    (s.setCell c a).setCell c b = s.setCell c b := by
  simp only [State.setCell, Vector.set_set]

/-- A field of a cell that a change of cell c leaves is that of the cell before it. -/
theorem State.cell_setCell_of {α : Type} (f : Cell → α) {c : CellIx} {r : Cell} (h : f r = f (s.cell c))
    (b : CellIx) : f ((s.setCell c r).cell b) = f (s.cell b) := by
  rw [State.cell_setCell]
  split
  · next e => rw [h, e]
  · rfl

/-- A cell in Running or Stopping is operating (R27). -/
theorem CellState.operating_iff {x : CellState} : x.operating = true ↔ x = .running ∨ x = .stopping := by
  cases x <;> simp [CellState.operating]

/-! ### Assembly -/

/-- The cell record of an interval whose downlink has been assembled (R38). -/
def Cell.downlinked (r : Cell) : Cell := { r with assembled := true }

/-- The state in which a downlink is assembled: the tick moved on and the cell marked. -/
def State.assembling (s : State) (c : CellIx) : State := (s.atTick 3758).setCell c (s.cell c).downlinked

@[simp] theorem State.assembling_dev (s : State) (c : CellIx) (i : DevIx) : (s.assembling c).dev i = s.dev i := rfl
@[simp] theorem State.assembling_zone (s : State) (c : CellIx) (z : ZoneIx) :
    (s.assembling c).zone z = s.zone z := rfl
@[simp] theorem State.assembling_cell_self (s : State) (c : CellIx) :
    (s.assembling c).cell c = (s.cell c).downlinked := State.cell_setCell_self _ _ _

/-- The downlink of a report or alarm interval acknowledges the first frame of the list, if there is one (R38). -/
theorem State.assemble_of_frames {c : CellIx} (h0 : s.time.interval ≠ 0) (h7 : s.time.interval ≠ 7)
    (ho : (s.cell c).state.operating = true) (ha : (s.cell c).assembled = false) :
    s.assemble c = match (s.cell c).frames with
      | f :: _ => (s.assembling c).acknowledge c f
      | [] => s.assembling c := by
  have use : intervalUse s.time.interval ≠ .beacon ∧ intervalUse s.time.interval ≠ .enrolment := by
    have h0 : s.time.interval.val ≠ 0 := fun e => h0 (Fin.ext e)
    have h7 : s.time.interval.val ≠ 7 := fun e => h7 (Fin.ext e)
    unfold intervalUse
    rw [if_neg h0]
    split
    · exact ⟨nofun, nofun⟩
    · exact ⟨nofun, nofun⟩
  obtain ⟨not_beacon, not_enrolment⟩ := use
  simp only [State.assemble, h0, ho, ha, false_or, Bool.not_true, Bool.false_eq_true, if_false, State.modCell_eq,
    State.atTick_cell, State.setCell_time, State.atTick_interval, State.cell_setCell_self]
  cases hu : intervalUse s.time.interval with
  | beacon => exact absurd hu not_beacon
  | enrolment => exact absurd hu not_enrolment
  | report k => rfl
  | alarm => rfl

/-- The downlink of an enrolment interval answers its claim (R37). -/
theorem State.assemble_of_claim {c : CellIx} {q : Claim} (h7 : s.time.interval = 7)
    (ho : (s.cell c).state.operating = true) (ha : (s.cell c).assembled = false) (hq : (s.cell c).claim = some q) :
    s.assemble c = (s.assembling c).grantDownlink c q := by
  have use : intervalUse s.time.interval = .enrolment := by rw [h7]; rfl
  have h0 : s.time.interval ≠ 0 := by rw [h7]; decide
  have claimed : ((s.assembling c).cell c).claim = some q := by rw [State.assembling_cell_self]; exact hq
  have unfolds : s.assemble c = match ((s.assembling c).cell c).claim with
      | some q => (s.assembling c).grantDownlink c q
      | none => s.assembling c := by
    simp only [State.assemble, h0, ho, ha, false_or, Bool.not_true, Bool.false_eq_true, if_false, State.modCell_eq,
      State.atTick_cell, State.setCell_time, State.atTick_interval, use]
    rfl
  rw [unfolds, claimed]

theorem State.exec_downlinkAssembly (hp : s.phase = .running) (c : CellIx) :
    exec (.downlinkAssembly c) s = .next (s.assemble c) := by
  change Host.Outcome.next (s.whenRunning fun s => s.assemble c) = _
  rw [State.whenRunning, if_pos hp]

theorem State.assembling_channel (s : State) (c b : CellIx) :
    ((s.assembling c).cell b).channel = (s.cell b).channel :=
  State.cell_setCell_of (s := s.atTick 3758) (r := (s.cell c).downlinked) (fun r => r.channel) rfl b
/-- A transmit request of the cell whose downlink is assembled (R45). -/
theorem State.assembling_transmit (s : State) (c : CellIx) (k : Fin 12) (tick : Fin 8192) (bytes : List Byte) :
    (s.assembling c).transmit c k tick bytes = (s.atTick 3758).setCell c { (s.cell c).downlinked with
      lastTx := some { interval := k, tick := tick, channel := (s.cell c).channel, bytes := bytes } } := by
  simp only [State.transmit, State.modCell_eq, State.assembling_cell_self]
  exact State.setCell_setCell _ _ _ _

/-- The values of an acknowledgement are those that its owners hold at assembly (R39, R40). -/
theorem State.assembling_acknowledgement (s : State) (c : CellIx) (f : FrameEntry) :
    (s.assembling c).acknowledgement f = s.acknowledgement f := by
  simp only [State.acknowledgement, State.wake, State.reassignment, State.place, State.assembling_dev,
    State.assembling_zone, State.assembling_channel]

/-! ### The wake level (R90) -/

theorem wakeLevel_heat {d : Device} {r : Zone} (hk : d.kind = .heat) : (wakeLevel d r : Int) =
    max 0 (min 250 ((r.params.tfix : Int) - (r.params.preOffset : Int) + 40)) := by
  simp only [wakeLevel, hk, clampInt]
  exact Int.toNat_of_nonneg (le_max_left _ _)

theorem wakeLevel_smoke {d : Device} {r : Zone} (hk : d.kind = .smoke) : wakeLevel d r =
    min 250 ((match d.smoke.baseline with
      | some b => (b + 8) / 16
      | none => r.params.nominal) + r.tpre) := by
  simp only [wakeLevel, hk]
  cases d.smoke.baseline <;> rfl

/-- A frame is acknowledged while its entry still owns its slot under its identity (R38, R40). -/
theorem State.assembling_acknowledge {c : CellIx} {f : FrameEntry}
    (hd : (s.dev f.index).life.owns = true ∧ (s.dev f.index).identity = f.identity) :
    (s.assembling c).acknowledge c f =
      ((s.atTick 3758).setCell c { (s.cell c).downlinked with
        lastTx := some { interval := s.time.interval, tick := 5898, channel := (s.cell c).channel,
                         bytes := s.acknowledgement f } }).setDev f.index (s.dev f.index).announced := by
  have hd' : ((s.assembling c).dev f.index).life.owns = true ∧ ((s.assembling c).dev f.index).identity = f.identity :=
    hd
  rw [State.acknowledge, if_pos hd', State.assembling_transmit, State.assembling_acknowledgement]
  rfl

/-- A frame whose entry has left its owning state is not acknowledged (R38). -/
theorem State.assembling_acknowledge_left {c : CellIx} {f : FrameEntry}
    (hd : ¬((s.dev f.index).life.owns = true ∧ (s.dev f.index).identity = f.identity)) :
    (s.assembling c).acknowledge c f = s.assembling c := if_neg hd

/-- The fire-latched indication of an acknowledgement (R39). -/
theorem Device.latched_indication (d : Device) :
    (d.cond == .fireLatched && d.kind != .repeater) = decide (d.cond = .fireLatched ∧ d.kind ≠ .repeater) := by
  rw [Bool.decide_and]
  rcases d.kind <;> rcases d.cond <;> rfl

/-- Settles O34: the assembly of a report or alarm interval, frame by frame, and the four kinds of wake level. -/
theorem acknowledgementOfFirstFrame : Obligations.AcknowledgementOfFirstFrame := by
  refine ⟨fun s c hp h0 h7 ho ha => ?_, fun d r => ⟨wakeLevel_smoke, wakeLevel_heat, fun hk => ?_, fun hk => ?_⟩⟩
  · have runs := State.assemble_of_frames h0 h7 (CellState.operating_iff.mpr ho) ha
    dsimp only
    split
    · next hf =>
      rw [hf] at runs
      rw [State.exec_downlinkAssembly hp, runs]
      rfl
    · next f fs hf =>
      rw [hf] at runs
      rw [State.exec_downlinkAssembly hp, runs]
      split
      · next hd =>
        rw [← Device.latched_indication]
        exact congrArg _ (State.assembling_acknowledge hd)
      · next hd => exact congrArg _ (State.assembling_acknowledge_left hd)
  · simp only [wakeLevel, hk]
  · simp only [wakeLevel, hk]

end Sys2Proof.Machine

/-! ## Grants (R9, R10) -/

namespace Sys2Proof.Machine

variable {s t u : State}

/-! ### The Unsupervised cause (R52, R53) -/

/-- The record with the Unsupervised cause that its home cell gives it (R53). -/
def Device.heldBy (d : Device) (home : Cell) : Device :=
  { d with faults := { d.faults with
      unsupervised := decide (home.state = .off ∨ home.state = .failed ∨ home.state = .absent) } }

/-- The record with its Unsupervised cause set to v (R53). -/
def Device.withUnsupervised (d : Device) (v : Bool) : Device := { d with faults := { d.faults with unsupervised := v } }

theorem Device.withUnsupervised_self {d : Device} {v : Bool} (h : d.faults.unsupervised = v) :
    d.withUnsupervised v = d := by
  rw [← h]
  rfl

theorem Eval.restore_unsupervised (d : Device) (x : Setting) : ({ d := d } : Eval).restore x .unsupervised =
    { d := d.withUnsupervised false
      events := if d.faults.unsupervised = true then [.deviceRestored x.i (.cause .unsupervised)] else [] } := by
  by_cases h : d.faults.unsupervised = true
  · rw [Eval.restore, FaultSet.has, if_pos h, if_pos h]; rfl
  · rw [Eval.restore, FaultSet.has, if_neg h, if_neg h, Device.withUnsupervised_self (eq_false_of_ne_true h)]

theorem Eval.fail_unsupervised (d : Device) (x : Setting) : ({ d := d } : Eval).fail x .unsupervised =
    { d := d.withUnsupervised true
      events := if d.faults.unsupervised = true then [] else [.deviceFault x.i .unsupervised] } := by
  by_cases h : d.faults.unsupervised = true
  · rw [Eval.fail, FaultSet.has, if_pos h, if_pos h, Device.withUnsupervised_self h]
  · rw [Eval.fail, FaultSet.has, if_neg h, if_neg h]; rfl

theorem CellState.operating_eq_not (x : CellState) :
    x.operating = !decide (x = .off ∨ x = .failed ∨ x = .absent) := by
  cases x <;> rfl

/-- The Unsupervised cause of an owning entry is brought into line with its home cell, with the event of the change
(R52, R53). -/
theorem State.alignUnsupervised_eq {i : DevIx} (h : (s.dev i).life.owns = true) : s.alignUnsupervised i =
    (s.setDev i ((s.dev i).heldBy (s.cell (homeCell i)))).createAll
      (unsupervisedChange (s.dev i) i (s.cell (homeCell i))) := by
  have held : (s.dev i).heldBy (s.cell (homeCell i)) =
      (s.dev i).withUnsupervised (!(s.cell (homeCell i)).state.operating) := by
    rw [CellState.operating_eq_not, Bool.not_not]
    rfl
  rw [held]
  by_cases ho : (s.cell (homeCell i)).state.operating = true
  · simp only [State.alignUnsupervised, h, ho, Bool.not_true, Bool.false_eq_true, if_false, if_true,
      Eval.restore_unsupervised, unsupervisedChange, if_pos (CellState.operating_iff.mp ho)]
    rfl
  · simp only [State.alignUnsupervised, h, ho, Bool.not_true, Bool.false_eq_true, if_false, Bool.not_false,
      Eval.fail_unsupervised, unsupervisedChange, if_neg (mt CellState.operating_iff.mpr ho)]
    rfl

/-- Records with the same Unsupervised cause change it alike. -/
theorem unsupervisedChange_congr {d e : Device} {a b : Cell} (i : DevIx)
    (h : e.faults.unsupervised = d.faults.unsupervised) (hs : b.state = a.state) :
    unsupervisedChange e i b = unsupervisedChange d i a := by
  simp only [unsupervisedChange, h, hs]

/-! ### A grant -/

theorem Device.grantable_iff {d : Device} : d.grantable = true ↔
    d.life = .enrolling ∨ (d.life = .calibrating ∧ d.granted = true ∧ d.lastSeq = none) := by
  simp [Device.grantable, and_assoc]

/-- The transmit request that carries the grant of the entry at index i (R9). -/
def State.grantRequest (s : State) (c : CellIx) (i : DevIx) (p : Path) : TxRequest where
  interval := s.time.interval
  tick := 5898
  channel := (s.cell c).channel
  bytes := s.grantFrame i p

/-- The state with the grant of the entry at index i requested in cell c. -/
def State.granting (s : State) (c : CellIx) (i : DevIx) (p : Path) : State :=
  (s.atTick 3758).setCell c { (s.cell c).downlinked with lastTx := some (s.grantRequest c i p) }

theorem State.assembling_grantFrame (s : State) (c : CellIx) (i : DevIx) (p : Path) :
    (s.assembling c).grantFrame i p = s.grantFrame i p := by
  simp only [State.grantFrame, State.wake, State.assembling_dev, State.assembling_zone, State.assembling_channel]

/-- The claim's entry is granted while Enrolling, and sent its grant again while it has not reported (R9, R10). -/
theorem State.assembling_grantDownlink {c : CellIx} {q : Claim} {i : DevIx} (hg : q.grant = some i)
    (hid : (s.dev i).identity = q.identity) (h : (s.dev i).grantable = true) :
    (s.assembling c).grantDownlink c q =
      if (s.dev i).life = .enrolling then (s.granting c i q.path).granted c i else s.granting c i q.path := by
  have sent : (s.assembling c).transmit c (s.assembling c).time.interval downlinkTick
      ((s.assembling c).grantFrame i q.path) = s.granting c i q.path := by
    rw [State.assembling_transmit, State.assembling_grantFrame]
    rfl
  simp only [State.grantDownlink, hg, State.assembling_dev, hid, h, and_self, if_true, sent]

/-- A claim whose entry has left the states of a grant counts an unmatched enrolment (log 15). -/
theorem State.assembling_grantDownlink_left {c : CellIx} {q : Claim} {i : DevIx} (hg : q.grant = some i)
    (h : ¬((s.dev i).identity = q.identity ∧ (s.dev i).grantable = true)) :
    (s.assembling c).grantDownlink c q = (s.assembling c).countUnmatched c := by
  simp only [State.grantDownlink, hg, State.assembling_dev, h, if_false]

/-- The record of an entry that has been granted, and not yet compared with its home cell (R9). -/
def Device.grantedRecord (d : Device) : Device := { d with life := .calibrating, granted := true, deadline := none }

/-- The state of a grant before the home cell is looked at: the record, its write, its event and its slot. -/
def State.grantWritten (s : State) (c : CellIx) (i : DevIx) : State :=
  (((s.setDev i (s.dev i).grantedRecord).requestRoster [i]).create (.deviceEnrolled i c)).setSlot (homeCell i)
    (homeSlot i) .unowned

theorem State.granted_eq (s : State) (c : CellIx) (i : DevIx) :
    s.granted c i = (s.grantWritten c i).alignUnsupervised i := rfl

/-- The records of a grant: that of the index alone, flagged while a restart is pending (R4, R170). -/
theorem State.grantWritten_dev (s : State) (c : CellIx) (i k : DevIx) : (s.grantWritten c i).dev k =
    if k = i then { (s.dev i).grantedRecord with
      outstanding := if s.restart = .idle then (s.dev i).outstanding else true } else s.dev k := by
  change (((s.setDev i (s.dev i).grantedRecord).requestRoster [i]).create (.deviceEnrolled i c)).dev k = _
  rw [State.create_dev]
  by_cases hr : s.restart = .idle
  · rw [State.requestRoster_dev_idle (s := s.setDev i (s.dev i).grantedRecord) hr, State.dev_setDev, if_pos hr]
    rfl
  · rw [(State.requestRoster_restarting (s := s.setDev i (s.dev i).grantedRecord) hr [i]).2, State.dev_setDev,
      if_neg hr]
    by_cases hk : k = i
    · simp only [hk, List.mem_singleton, if_true]
    · simp only [hk, List.mem_singleton, if_false]

/-- A roster request of a state with one record changed, as a change of records and store. -/
theorem State.requestRoster_setDev_eq (s : State) (i : DevIx) (d : Device) (ixs : List DevIx) :
    ∃ ros st, (s.setDev i d).requestRoster ixs = { s with roster := ros, store := st } := by
  rw [State.requestRoster_eq]
  exact ⟨_, _, rfl⟩

/-- The cells of a grant: the home slot's record entry becomes Unowned (R41). -/
theorem State.grantWritten_cell (s : State) (c : CellIx) (i : DevIx) (b : CellIx) :
    (s.grantWritten c i).cell b = if b = homeCell i then { s.cell b with
      slots := (s.cell b).slots.set (homeSlot i) .unowned } else s.cell b := by
  obtain ⟨ros, st, e⟩ := s.requestRoster_setDev_eq i (s.dev i).grantedRecord [i]
  have before : ∀ b, (((s.setDev i (s.dev i).grantedRecord).requestRoster [i]).create (.deviceEnrolled i c)).cell b =
      s.cell b := fun b => by
    rw [e, State.create_cell]
    rfl
  rw [State.grantWritten, State.setSlot, State.modCell_eq, State.cell_setCell, before, before]
  split
  · next h => rw [h]
  · rfl

/-- The store, events and clocks of a grant. -/
theorem State.grantWritten_frame (s : State) (c : CellIx) (i : DevIx) :
    s.keepsLinks (s.grantWritten c i) ∧ s.keepsClocks (s.grantWritten c i) ∧ (s.grantWritten c i).zones = s.zones ∧
      (s.grantWritten c i).siteCount = s.siteCount ∧
        (s.create (.deviceEnrolled i c)).sameEvents (s.grantWritten c i) ∧
          (s.grantWritten c i).store = ((s.setDev i (s.dev i).grantedRecord).requestRoster [i]).store := by
  obtain ⟨ros, st, e⟩ := s.requestRoster_setDev_eq i (s.dev i).grantedRecord [i]
  rw [State.grantWritten, State.setSlot, State.modCell_eq, e]
  refine ⟨State.keepsLinks.trans ⟨rfl, rfl, rfl, rfl, rfl, rfl, rfl, rfl, rfl⟩ (State.keepsLinks_create _ _),
    State.keepsClocks.trans ⟨rfl, rfl, rfl⟩ (State.keepsClocks_create _ _), by simp, by simp, ?_, by simp⟩
  exact State.sameEvents_create (s := s) _ ⟨rfl, rfl, rfl, rfl⟩ rfl

/-- A grant, record by record: the entry Calibrating and granted, its home cell's slot Unowned, the write of its index
and its two events (R9, R4, R41, R53). -/
theorem State.granted_spec (s : State) (c : CellIx) (i : DevIx) :
    let home := s.cell (homeCell i)
    (s.granted c i).dev i = { s.dev i with
      life := .calibrating, granted := true, deadline := none
      outstanding := if s.restart = .idle then (s.dev i).outstanding else true
      faults := { (s.dev i).faults with
        unsupervised := decide (home.state = .off ∨ home.state = .failed ∨ home.state = .absent) } } ∧
    (∀ k, k ≠ i → (s.granted c i).dev k = s.dev k) ∧
    (∀ b, (s.granted c i).cell b = if b = homeCell i then { s.cell b with
      slots := (s.cell b).slots.set (homeSlot i) .unowned } else s.cell b) ∧
    s.keepsLinks (s.granted c i) ∧ s.keepsClocks (s.granted c i) ∧ (s.granted c i).zones = s.zones ∧
    (s.granted c i).siteCount = s.siteCount ∧
    (s.restart = .idle → (s.granted c i).covers i) ∧ (s.restart ≠ .idle → (s.granted c i).store = s.store) ∧
    ((s.create (.deviceEnrolled i c)).createAll (unsupervisedChange (s.dev i) i home)).sameEvents (s.granted c i) := by
  intro home
  obtain ⟨links, clocks, zones, count, events, store⟩ := s.grantWritten_frame c i
  have self := s.grantWritten_dev c i i
  rw [if_pos rfl] at self
  have cell := s.grantWritten_cell c i (homeCell i)
  rw [if_pos rfl] at cell
  have state : ((s.grantWritten c i).cell (homeCell i)).state = home.state := by rw [cell]
  have owns : ((s.grantWritten c i).dev i).life.owns = true := by rw [self]; rfl
  rw [State.granted_eq, State.alignUnsupervised_eq owns]
  refine ⟨?_, fun k hk => ?_, fun b => ?_, ?_, ?_, by simpa using zones, by simpa using count, fun hr => ?_,
    fun hr => ?_, ?_⟩
  · rw [State.createAll_dev, State.dev_setDev, if_pos rfl, Device.heldBy, state, self]
    rfl
  · rw [State.createAll_dev, State.dev_setDev, if_neg hk, State.grantWritten_dev, if_neg hk]
  · rw [State.createAll_cell]
    exact s.grantWritten_cell c i b
  · exact links.trans
      (State.keepsLinks.trans ⟨rfl, rfl, rfl, rfl, rfl, rfl, rfl, rfl, rfl⟩ (State.keepsLinks_createAll _ _))
  · exact clocks.trans (State.keepsClocks.trans ⟨rfl, rfl, rfl⟩ (State.keepsClocks_createAll _ _))
  · obtain ⟨new, hn, hc⟩ :=
      State.requestRoster_covers (s := s.setDev i (s.dev i).grantedRecord) (ixs := [i]) hr (by simp)
    refine ⟨_, ?_, new, rfl, hc i (by simp)⟩
    rw [State.createAll_store]
    change _ ∈ (s.grantWritten c i).store.jobs
    rw [store]
    exact hn
  · rw [State.createAll_store]
    change (s.grantWritten c i).store = _
    rw [store]
    exact (State.requestRoster_restarting (s := s.setDev i (s.dev i).grantedRecord) hr [i]).1
  · rw [unsupervisedChange_congr (d := s.dev i) (a := home) i (by rw [self]; rfl) state]
    refine State.sameEvents_createAll _ (events.trans ⟨rfl, rfl, rfl, rfl⟩) ?_
    simpa using clocks.2.1

/-- Settles O35: the grant by its specification, the re-grant and the claim whose entry has left by the branches of
the downlink. -/
theorem grantMakesCalibrating : Obligations.GrantMakesCalibrating := by
  intro s c q i hp h7 ho ha hq hg d home u r request
  have runs : exec (.downlinkAssembly c) s = .next ((s.assembling c).grantDownlink c q) := by
    rw [State.exec_downlinkAssembly hp, State.assemble_of_claim h7 (CellState.operating_iff.mpr ho) ha hq]
  have requested : s.grantRequest c i q.path = request := by
    simp only [State.grantRequest, h7]
    rfl
  have sent : s.granting c i q.path = u.setCell c { r with lastTx := some request } := by
    rw [State.granting, requested]
    rfl
  refine ⟨fun hl hid => ?_, fun hl hgr hseq hid => ?_, fun hleft => ?_⟩
  · rw [State.assembling_grantDownlink hg hid (Device.grantable_iff.mpr (.inl hl)), if_pos hl] at runs
    obtain ⟨self, others, cells, links, clocks, zones, count, write, idle, events⟩ :=
      State.granted_spec (s.granting c i q.path) c i
    have cell : ∀ b, (s.granting c i q.path).cell b =
        if b = c then { s.cell c with assembled := true, lastTx := some request } else s.cell b := fun b => by
      rw [sent]
      exact State.cell_setCell _ _ _ _
    have state : ((s.granting c i q.path).cell (homeCell i)).state = home.state := by
      rw [cell]
      split
      · next e => exact congrArg (fun b => (s.cell b).state) e.symm
      · rfl
    have slots : ((s.granting c i q.path).cell (homeCell i)).slots = home.slots := by
      rw [cell]
      split
      · next e => exact congrArg (fun b => (s.cell b).slots) e.symm
      · rfl
    rw [state] at self
    refine ⟨_, runs, self, ?_, clocks, zones, count, fun b hc hb => ?_, others, ?_, ?_, write, idle, ?_⟩
    · exact State.keepsLinks.trans ⟨rfl, rfl, rfl, rfl, rfl, rfl, rfl, rfl, rfl⟩ links
    · rw [cells, if_neg hb, cell, if_neg hc]
    · rw [cells, cell, if_pos rfl]
      split <;> rfl
    · rw [cells, if_pos rfl, slots]
    · rw [unsupervisedChange_congr (d := d) (e := (s.granting c i q.path).dev i) i rfl state] at events
      refine State.sameEvents.trans ?_ events
      exact State.sameEvents_createAll _ (State.sameEvents_create _ ⟨rfl, rfl, rfl, rfl⟩ rfl)
        (by simp [State.granting, State.atTick])
  · have hn : ¬(s.dev i).life = .enrolling := by simp [show (s.dev i).life = .calibrating from hl]
    rw [runs, State.assembling_grantDownlink hg hid (Device.grantable_iff.mpr (.inr ⟨hl, hgr, hseq⟩)), if_neg hn, sent]
  · have left : ¬((s.dev i).identity = q.identity ∧ (s.dev i).grantable = true) := by
      rintro ⟨hid, hgr⟩
      rcases hleft with h | ⟨hne, hnc⟩
      · exact h hid
      · exact (Device.grantable_iff.mp hgr).elim hne hnc
    rw [runs, State.assembling_grantDownlink_left hg left, State.countUnmatched, State.modCell_eq,
      State.assembling_cell_self]
    exact congrArg _ (State.setCell_setCell _ _ _ _)

end Sys2Proof.Machine

/-! ## Accepted copies (R33 to R37) -/

namespace Sys2Proof.Machine

variable {s t u : State}

/-! ### A change of one cell and one record, beside events -/

/-- One cell changed by g and one record by h. -/
def State.touch (s : State) (c : CellIx) (g : Cell → Cell) (i : DevIx) (h : Device → Device) : State :=
  (s.setCell c (g (s.cell c))).setDev i (h (s.dev i))

/-- Creating an event neither reads nor changes cells and records (R131 to R137). -/
theorem State.create_with (s : State) (ros : Vector Device 192) (cs : Vector Cell 4) (b : EventBody) :
    ({ s with roster := ros, cells := cs } : State).create b = { s.create b with roster := ros, cells := cs } := by
  have stored : ∀ (s : State) (e : Event), ({ s with roster := ros, cells := cs } : State).storeEvent e =
      { s.storeEvent e with roster := ros, cells := cs } := by
    intro s e
    unfold State.storeEvent
    dsimp only
    split
    · rfl
    · split
      · rfl
      · split <;> rfl
  have same : ({ s with roster := ros, cells := cs } : State).newEvent b = s.newEvent b := rfl
  rw [State.create_eq, State.create_eq, same]
  split
  · rfl
  · exact stored { s with nextSeq := s.nextSeq + 1 } _

theorem State.touch_create (c : CellIx) (g : Cell → Cell) (i : DevIx) (h : Device → Device) (b : EventBody) :
    (s.touch c g i h).create b = (s.create b).touch c g i h := by
  have changed := s.create_with (s.touch c g i h).roster (s.touch c g i h).cells b
  have cells : (s.create b).cells = s.cells := s.create_cells b
  have roster : (s.create b).roster = s.roster := s.create_roster b
  refine changed.trans ?_
  simp only [State.touch, State.setDev, State.setCell, State.dev, State.cell, cells, roster]

theorem State.touch_createAll (c : CellIx) (g : Cell → Cell) (i : DevIx) (h : Device → Device) (bs : List EventBody) :
    (s.touch c g i h).createAll bs = (s.createAll bs).touch c g i h := by
  induction bs generalizing s with
  | nil => rfl
  | cons b bs ih => rw [State.createAll_cons, State.createAll_cons, State.touch_create, ih]

@[simp] theorem State.setDev_self (s : State) (i : DevIx) : s.setDev i (s.dev i) = s := by
  simp [State.setDev, State.dev]

@[simp] theorem State.setDev_setDev (s : State) (i : DevIx) (a b : Device) :
    (s.setDev i a).setDev i b = s.setDev i b := by
  simp only [State.setDev, Vector.set_set]

theorem State.setCell_create (s : State) (c : CellIx) (r : Cell) (b : EventBody) :
    (s.create b).setCell c r = (s.setCell c r).create b := by
  have cells : (s.create b).cells = s.cells := s.create_cells b
  have roster : (s.create b).roster = s.roster := s.create_roster b
  refine Eq.trans ?_ (s.create_with s.roster (s.cells.set c r) b).symm
  simp only [State.setCell, cells, ← roster]

/-! ### The examination of a copy (R33, R34) -/

/-- A copy that an operating cell examines before assembly goes through the tests of R34. -/
theorem State.exec_receivedCopy_examine {c : CellIx} {x : Copy} {v : Uplink} (hp : s.phase = .running)
    (ho : (s.cell c).state = .running ∨ (s.cell c).state = .stopping) (hd : (s.cell c).deaf = false)
    (hx : x.taken.val < 3758) (ht : s.time.tick.val < 3758) (hi : s.time.interval ≠ 0) (hg : x.good = true)
    (hv : Uplink.parse x.bytes = some v) (hw : (s.cell c).work.length < 3)
    (hn : ∀ w ∈ (s.cell c).work, w.path ≠ v.path) :
    exec (.receivedCopy c x) s = .next ((s.atTick x.taken).examine c v x) := by
  have before : ¬(assemblyTick ≤ (s.atTick x.taken).time.tick ∨ (s.atTick x.taken).time.interval = 0) := by
    rintro (h | h)
    · have hm : (max s.time.tick x.taken).val < 3758 := by
        rcases max_choice s.time.tick x.taken with e | e <;> rw [e] <;> assumption
      have h : 3758 ≤ (max s.time.tick x.taken).val := h
      omega
    · exact hi h
  have room : ¬(3 ≤ (s.cell c).work.length ∨ (s.cell c).work.any (fun w => w.path = v.path) = true) := by
    rintro (h | h)
    · omega
    · obtain ⟨w, hm, e⟩ := List.any_eq_true.mp h
      exact hn w hm (by simpa using e)
  change Host.Outcome.next (s.whenRunning fun s => s.receiveCopy c x) = _
  rw [State.whenRunning, if_pos hp]
  simp only [State.receiveCopy, State.atTick_cell, CellState.operating_iff.mpr ho, hd, Bool.not_true, Bool.false_or,
    Bool.false_eq_true, if_false, before, hg, if_true, hv, room]

/-- An accepted copy is handed on and goes onto the work list (R33, R36, R37). -/
theorem State.examine_accepted {c : CellIx} {v : Uplink} {x : Copy} (h : s.copyOutcome c v x.arrival = .accepted) :
    s.examine c v x = (s.handCopy c v x).setCell c { (s.handCopy c v x).cell c with
      work := ((s.handCopy c v x).cell c).work ++
        [{ path := v.path, identity := v.identity, outcome := .accepted }] } := by
  simp only [State.examine, h, if_true, State.modCell_eq]

/-! ### Enrolment requests (R9, R10, R37) -/

/-- The claim that the first Enrol copy of an interval takes, and that a later one leaves (R37). -/
def Cell.claimFor (r : Cell) (q : Claim) : Option Claim := if r.claim = none then some q else r.claim

/-- The statistics with one more unmatched enrolment (R10, R44). -/
def CellStats.unmatchedMore (x : CellStats) : CellStats := { x with unmatched := min 65535 (x.unmatched + 1) }

/-- A request that matches no grantable entry is counted (R10). -/
theorem State.handEnrol_unmatched {c : CellIx} {identity : BitVec 24} {kind : Byte} {p : Path}
    (h : ∀ i, s.holder identity = some i → (s.dev i).grantable = false) :
    s.handEnrol c identity kind p = s.setCell c { s.cell c with
      claim := (s.cell c).claimFor { identity := identity, kind := kind, path := p, grant := none }
      stats := (s.cell c).stats.unmatchedMore } := by
  have other : s.handEnrol c identity kind p = if (s.cell c).claim.isNone then
      (s.countUnmatched c).modCell c fun r => { r with
        claim := some { identity := identity, kind := kind, path := p, grant := none } } else s.countUnmatched c := by
    unfold State.handEnrol
    split
    · next i hi => rw [h i hi]; rfl
    · rfl
  rw [other, Cell.claimFor]
  cases hc : (s.cell c).claim with
  | none =>
    simp only [Option.isNone_none, if_true, State.countUnmatched, State.modCell_eq, State.setCell_setCell,
      State.cell_setCell_self]
    rfl
  | some q =>
    simp only [Option.isNone_some, Bool.false_eq_true, if_false, State.countUnmatched, State.modCell_eq, reduceCtorEq]
    rw [← hc]
    rfl

/-- The first request of a grantable entry, of its kind, names it in the claim (R9). -/
theorem State.handEnrol_matched {c : CellIx} {identity : BitVec 24} {kind : Byte} {p : Path} {i : DevIx}
    (hi : s.holder identity = some i) (hg : (s.dev i).grantable = true) (hc : (s.cell c).claim = none)
    (hk : kind.toNat = (s.dev i).kind.code) :
    s.handEnrol c identity kind p = s.setCell c { s.cell c with
      claim := some { identity := identity, kind := kind, path := p, grant := some i } } := by
  simp only [State.handEnrol, hi, hg, hc, hk, Option.isNone_none, if_true, State.modCell_eq]

/-- The first request of a grantable entry of another kind is counted and told (R10). -/
theorem State.handEnrol_mismatched {c : CellIx} {identity : BitVec 24} {kind : Byte} {p : Path} {i : DevIx}
    (hi : s.holder identity = some i) (hg : (s.dev i).grantable = true) (hc : (s.cell c).claim = none)
    (hk : kind.toNat ≠ (s.dev i).kind.code) :
    s.handEnrol c identity kind p = (s.setCell c { s.cell c with
      claim := some { identity := identity, kind := kind, path := p, grant := none }
      stats := (s.cell c).stats.unmatchedMore }).create (.enrolMismatch i kind) := by
  simp only [State.handEnrol, hi, hg, hc, hk, Option.isNone_none, if_true, if_false, State.countUnmatched,
    State.modCell_eq, State.setCell_setCell, State.cell_setCell_self]
  rfl

/-- A later request of a grantable entry changes nothing (R37). -/
theorem State.handEnrol_later {c : CellIx} {identity : BitVec 24} {kind : Byte} {p : Path} {i : DevIx}
    (hi : s.holder identity = some i) (hg : (s.dev i).grantable = true) (hc : (s.cell c).claim ≠ none) :
    s.handEnrol c identity kind p = s := by
  have hc : (s.cell c).claim.isNone = false := by simpa [Option.isSome_iff_ne_none] using hc
  simp only [State.handEnrol, hi, hg, hc, if_true, Bool.false_eq_true, if_false]

/-- Settles O33: the branches of the Roster's handling of a request, each as one change of the cell. -/
theorem enrolRequestsMatched : Obligations.EnrolRequestsMatched := by
  intro s c x identity kind p hp ho hd hx ht hg hv hw hn hacc h7 r isFirst claimed one takes out
  have runs : out = .next ((s.atTick x.taken).examine c (.enrol identity kind p) x) :=
    State.exec_receivedCopy_examine hp ho hd hx ht (by rw [h7]; decide) hg hv hw hn
  rw [State.examine_accepted (show (s.atTick x.taken).copyOutcome c _ _ = _ from hacc)] at runs
  have handed : ∀ t, (s.atTick x.taken).handEnrol c identity kind p = t → out = .next (t.setCell c { t.cell c with
      work := (t.cell c).work ++ [{ path := p, identity := identity, outcome := .accepted }] }) := by
    rintro t rfl
    exact runs
  have changed : ∀ r', (s.atTick x.taken).handEnrol c identity kind p = (s.atTick x.taken).setCell c r' →
      out = .next ((s.atTick x.taken).setCell c { r' with
        work := r'.work ++ [{ path := p, identity := identity, outcome := .accepted }] }) := by
    intro r' h
    rw [handed _ h, State.cell_setCell_self, State.setCell_setCell]
  refine ⟨fun h => changed _ (State.handEnrol_unmatched h), fun i hi hgr =>
    ⟨fun hc hk => ?_, fun hc hk => ?_, fun hc => ?_⟩⟩
  · rw [changed _ (State.handEnrol_matched hi hgr hc hk)]
    exact congrArg (fun q => Host.Outcome.next (takes q r.stats)) (if_pos hc).symm
  · have first : claimed none = _ := if_pos hc
    rw [handed _ (State.handEnrol_mismatched hi hgr hc hk), State.setCell_create, State.setCell_setCell,
      State.create_cell, State.cell_setCell_self, first]
    rfl
  · rw [handed _ (State.handEnrol_later hi hgr hc)]
    rfl

end Sys2Proof.Machine

/-! ## What an evaluation leaves of a record (R65, R67) -/

namespace Sys2Proof.Machine

variable {s t u : State}

/-- The record d with its zone, supervision's fields, last sequence, routes and shadow slot from k: what an evaluation
neither reads nor changes. -/
def Device.framed (d k : Device) : Device :=
  { d with
    zone := k.zone, heard := k.heard, lastSeq := k.lastSeq, offset := k.offset, missCount := k.missCount
    routes := k.routes, shadow := k.shadow }

/-- An evaluation whose record is framed. -/
def Eval.framed (k : Device) (e : Eval) : Eval := { e with d := e.d.framed k }

/-- The outcome of an evaluation whose record is framed. -/
def Evaluated.framed (k : Device) (e : Evaluated) : Evaluated := { e with d := e.d.framed k }

variable (k : Device) (e : Eval) (x : Setting)

theorem Eval.restore_framed (c : Cause) : (e.framed k).restore x c = (e.restore x c).framed k := by
  unfold Eval.restore
  rw [apply_ite (Eval.framed k)]
  rfl

theorem Eval.fail_framed (c : Cause) : (e.framed k).fail x c = (e.fail x c).framed k := by
  unfold Eval.fail
  rw [apply_ite (Eval.framed k)]
  rfl

theorem Eval.measurement_framed (r : Byte) : (e.framed k).measurement x r = (e.measurement x r).framed k := by
  simp only [Eval.measurement, ← Eval.restore_framed]
  rfl

theorem Eval.contaminated_framed (b limit : Nat) :
    (e.framed k).contaminated x b limit = (e.contaminated x b limit).framed k := by
  simp only [Eval.contaminated, Eval.fail_framed, Eval.restore_framed, ← apply_ite (Eval.framed k)]

theorem Eval.calibrate_framed (v : Nat) : (e.framed k).calibrate x v = (e.calibrate x v).framed k := by
  simp only [Eval.calibrate, apply_ite (Eval.framed k), ← Eval.fail_framed]
  rfl

theorem Eval.drift_framed (before : Device) (v : Nat) :
    (e.framed k).drift x (before.framed k) v = (e.drift x before v).framed k := by
  have base : (before.framed k).smoke.baseline = before.smoke.baseline := rfl
  unfold Eval.drift
  rw [base]
  cases before.smoke.baseline with
  | none => rfl
  | some b =>
    simp only [apply_ite (Eval.framed k), ← Eval.contaminated_framed]
    rfl

theorem Eval.enterPreAlarm_framed (level : Nat) :
    (e.framed k).enterPreAlarm x level = (e.enterPreAlarm x level).framed k := by
  simp only [Eval.enterPreAlarm, apply_ite (Eval.framed k)]
  rfl

theorem Eval.thresholds_framed (a : Nat) : (e.framed k).thresholds x a = (e.thresholds x a).framed k := by
  have cond : (e.framed k).d.cond = e.d.cond := rfl
  unfold Eval.thresholds
  rw [cond]
  cases e.d.cond with
  | quiet => simp only [apply_ite (Eval.framed k), ← Eval.enterPreAlarm_framed]
  | preAlarm => simp only [apply_ite (Eval.framed k)]; rfl
  | fireLatched => rfl

theorem Eval.smokeDecide_framed (a : Nat) : (e.framed k).smokeDecide x a = (e.smokeDecide x a).framed k := by
  simp only [Eval.smokeDecide, Eval.thresholds_framed, apply_ite (Evaluated.framed k)]
  rfl

theorem Eval.smoke_framed (v : Nat) : (e.framed k).smoke x v = (e.smoke x v).framed k := by
  simp only [Eval.smoke, apply_ite (Evaluated.framed k), ← Eval.smokeDecide_framed, ← Eval.drift_framed,
    Eval.calibrate_framed]
  rfl

theorem Eval.heatPreAlarm_framed (v : Nat) : (e.framed k).heatPreAlarm x v = (e.heatPreAlarm x v).framed k := by
  have cond : (e.framed k).d.cond = e.d.cond := rfl
  unfold Eval.heatPreAlarm
  rw [cond]
  cases e.d.cond with
  | quiet => simp only [apply_ite (Eval.framed k), ← Eval.enterPreAlarm_framed]
  | preAlarm => simp only [apply_ite (Eval.framed k)]; rfl
  | fireLatched => rfl

/-- The temperature and rate stage taken into the record (R83). -/
def Eval.heated (v : Nat) : Eval := { e with d := { e.d with heat := e.d.heat.after ((v : Int) - 40) x.now } }

theorem Eval.heat_eq (v : Nat) : e.heat x v =
    if e.d.cond = .fireLatched then { d := (e.heated x v).d, events := e.events, latch := none }
    else if heatCandidate (e.heated x v).d.heat x.zone.params ((v : Int) - 40) then
      { d := { ((e.heated x v).heatPreAlarm x v).d with cond := .fireLatched }
        events := ((e.heated x v).heatPreAlarm x v).events, latch := some (v, 0) }
    else
      { d := ((e.heated x v).heatPreAlarm x v).d, events := ((e.heated x v).heatPreAlarm x v).events, latch := none } :=
  rfl

theorem Eval.heated_framed (v : Nat) : (e.framed k).heated x v = (e.heated x v).framed k := rfl

theorem Eval.heat_framed (v : Nat) : (e.framed k).heat x v = (e.heat x v).framed k := by
  simp only [Eval.heat_eq, Eval.heated_framed, Eval.heatPreAlarm_framed, apply_ite (Evaluated.framed k)]
  rfl

theorem Eval.callPoint_framed (v : Nat) : (e.framed k).callPoint v = (e.callPoint v).framed k := by
  simp only [Eval.callPoint, apply_ite (Evaluated.framed k)]
  rfl

/-- An evaluation neither reads nor changes the fields of `Device.framed`. -/
theorem evaluation_framed (d : Device) (r : Byte) :
    evaluation x (d.framed k) r = (evaluation x d r).framed k := by
  have start : ({ d := d.framed k } : Eval) = ({ d := d } : Eval).framed k := rfl
  have kind : (d.framed k).kind = d.kind := rfl
  unfold evaluation
  simp only [start, kind]
  split
  · rfl
  · cases faultOf r with
    | some c => rfl
    | none =>
      cases measured r with
      | none => rfl
      | some v =>
        cases d.kind with
        | smoke => simp only [Eval.measurement_framed, Eval.smoke_framed]
        | heat => simp only [Eval.measurement_framed, Eval.heat_framed]
        | callPoint => simp only [Eval.measurement_framed, Eval.callPoint_framed]
        | repeater => rfl

/-- An evaluation keeps the fields of `Device.framed`. -/
theorem evaluation_frame (d : Device) (r : Byte) :
    (evaluation x d r).d = (evaluation x d r).d.framed d :=
  congrArg Evaluated.d (evaluation_framed d x d r)

/-! ### What an evaluation does to the state of an entry (R71) -/

theorem Eval.restore_life (c : Cause) : (e.restore x c).d.life = e.d.life := by
  unfold Eval.restore
  split <;> rfl

theorem Eval.fail_life (c : Cause) : (e.fail x c).d.life = e.d.life := by
  unfold Eval.fail
  split <;> rfl

theorem Eval.measurement_life (r : Byte) : (e.measurement x r).d.life = e.d.life := by
  simp only [Eval.measurement, Eval.restore_life]

theorem Eval.drift_life (before : Device) (v : Nat) : (e.drift x before v).d.life = e.d.life := by
  have contaminated : ∀ (e : Eval) b limit, (e.contaminated x b limit).d.life = e.d.life := by
    intro e b limit
    unfold Eval.contaminated
    split
    · exact e.fail_life x _
    · split
      · exact e.restore_life x _
      · rfl
  unfold Eval.drift
  split
  · rfl
  · split
    · rw [contaminated]
    · rfl

/-- Calibration leaves an entry in its state, or makes it Supervised (R71). -/
theorem Eval.calibrate_life (v : Nat) :
    (e.calibrate x v).d.life = e.d.life ∨ (e.calibrate x v).d.life = .supervised := by
  unfold Eval.calibrate
  split
  · exact .inl rfl
  · dsimp only
    split
    · exact .inl rfl
    · split
      · exact .inr (Eval.fail_life _ _ _)
      · exact .inr rfl

theorem Eval.enterPreAlarm_life (level : Nat) : (e.enterPreAlarm x level).d.life = e.d.life := by
  have branches : ∀ (p : Prop) [Decidable p] (a b : Eval), a.d.life = e.d.life → b.d.life = e.d.life →
      (if p then a else b).d.life = e.d.life := by
    intro p _ a b ha hb
    split <;> assumption
  exact branches _ _ _ rfl rfl

theorem Eval.smokeDecide_life (a : Nat) : (e.smokeDecide x a).d.life = e.d.life := by
  have thresholds : (e.thresholds x a).d.life = e.d.life := by
    unfold Eval.thresholds
    split
    · split
      · exact e.enterPreAlarm_life x a
      · rfl
    · split <;> rfl
    · rfl
  simp only [Eval.smokeDecide]
  split <;> exact thresholds

theorem Eval.smoke_life (v : Nat) : (e.smoke x v).d.life = e.d.life ∨ (e.smoke x v).d.life = .supervised := by
  simp only [Eval.smoke]
  split
  · exact e.calibrate_life x v
  · rw [Eval.smokeDecide_life, Eval.drift_life]
    exact e.calibrate_life x v

theorem Eval.heat_life (v : Nat) : (e.heat x v).d.life = e.d.life := by
  have preAlarm : ((e.heated x v).heatPreAlarm x v).d.life = e.d.life := by
    unfold Eval.heatPreAlarm
    dsimp only
    split
    · split
      · exact Eval.enterPreAlarm_life _ x v
      · rfl
    · split <;> rfl
    · rfl
  rw [Eval.heat_eq]
  split
  · rfl
  · split <;> exact preAlarm

theorem Eval.callPoint_life (v : Nat) : (e.callPoint v).d.life = e.d.life := by
  simp only [Eval.callPoint]
  split <;> rfl

/-- An evaluation leaves an entry in its state, or makes it Supervised. -/
theorem evaluation_life (d : Device) (r : Byte) :
    (evaluation x d r).d.life = d.life ∨ (evaluation x d r).d.life = .supervised := by
  have measured_life : ∀ r, (({ d := d } : Eval).measurement x r).d.life = d.life := Eval.measurement_life _ x
  simp only [evaluation]
  split
  · exact .inl rfl
  · split
    · exact .inl rfl
    · split
      · exact .inl rfl
      · split
        · rw [← measured_life r]; exact Eval.smoke_life _ x _
        · exact .inl ((Eval.heat_life _ x _).trans (measured_life r))
        · exact .inl ((Eval.callPoint_life _ _).trans (measured_life r))
        · exact .inl rfl

end Sys2Proof.Machine

/-! ## Frames taken (R36, R47, R64) -/

namespace Sys2Proof.Machine

variable {s t u : State}

/-! ### The shadow slot and the zones -/

/-- The record whose shadow slot is released when p holds (R20). -/
def Device.released (p : Prop) [Decidable p] (d : Device) : Device :=
  { d with shadow := if p then none else d.shadow }

theorem Device.latchCleared_released (p : Prop) [Decidable p] (d : Device) :
    (d.released p).latchCleared = d.latchCleared.released p := by
  have kind : (d.released p).kind = d.kind := rfl
  unfold Device.latchCleared Device.verifCleared
  rw [kind]
  split <;> rfl

section
variable (c : CellIx) (g : Cell → Cell) (i : DevIx) (p : Prop) [Decidable p]

/-- The state after a frame's marks: its cell changed by g, and the shadow slot of its entry released when p holds. -/
abbrev State.marked (s : State) : State := s.touch c g i (Device.released p)

theorem State.touch_dev (h : Device → Device) (k : DevIx) :
    (s.touch c g i h).dev k = if k = i then h (s.dev i) else s.dev k := State.dev_setDev _ _ _ _

theorem State.marked_dev (k : DevIx) : ∃ sh, (s.marked c g i p).dev k = { s.dev k with shadow := sh } := by
  rw [State.touch_dev]
  split
  · next h => rw [h]; exact ⟨_, rfl⟩
  · exact ⟨_, rfl⟩

/-- A roll-up does not read cells and shadow slots (R103, R104). -/
theorem State.marked_rollUp (z : ZoneIx) : (s.marked c g i p).rollUp z = s.rollUp z := by
  have counts : ∀ q : Device → Bool, (∀ d sh, q { d with shadow := sh } = q d) →
      (s.marked c g i p).countedWith z q = s.countedWith z q := by
    intro q hq
    unfold State.countedWith State.countDevs
    congr 1
    refine List.filter_congr fun k _ => ?_
    obtain ⟨sh, e⟩ := State.marked_dev (s := s) c g i p k
    rw [e]
    exact congrArg _ (hq _ _)
  have latched := counts (fun d => d.cond == .fireLatched) fun _ _ => rfl
  have callPoints := counts (fun d => d.cond == .fireLatched && d.kind == .callPoint) fun _ _ => rfl
  have preAlarm := counts (fun d => d.cond == .preAlarm) fun _ _ => rfl
  simp only [State.rollUp, latched, callPoints, preAlarm]
  rfl

theorem State.marked_recompute (z : ZoneIx) : (s.marked c g i p).recompute z = (s.recompute z).marked c g i p := by
  unfold State.recompute
  rw [State.marked_rollUp]
  dsimp only
  split
  · next h => rw [if_pos (show s.rollUp z = (s.zone z).cond from h)]
  · next h =>
    rw [if_neg (show ¬s.rollUp z = (s.zone z).cond from h)]
    have zones : ∀ v, (s.marked c g i p).setZone z v = (s.setZone z v).marked c g i p := fun _ => rfl
    have zone : (s.marked c g i p).zone z = s.zone z := rfl
    have clock : (s.marked c g i p).runClock = s.runClock := rfl
    rw [State.modZone, State.modZone, zone, clock, zones, State.touch_create]

theorem State.marked_dev_self : (s.marked c g i p).dev i = (s.dev i).released p := by
  rw [State.touch_dev, if_pos rfl]

theorem State.marked_takeLatch (level elapsed : Nat) :
    (s.marked c g i p).takeLatch i level elapsed = (s.takeLatch i level elapsed).marked c g i p := by
  have self := State.marked_dev_self (s := s) c g i p
  have zone : ∀ z, (s.marked c g i p).zone z = s.zone z := fun _ => rfl
  have begun : (s.marked c g i p).beginLatch i level elapsed = (s.beginLatch i level elapsed).marked c g i p := by
    have zones : ∀ z v, (s.marked c g i p).setZone z v = (s.setZone z v).marked c g i p := fun _ _ => rfl
    have device : ((s.dev i).released p).zone = (s.dev i).zone := rfl
    simp only [State.beginLatch, State.modZone, self, device, zone, zones]
    exact State.touch_create (s := { s.setZone _ _ with siteCount := s.siteCount + 1 }) c g i _ _
  have cleared : ∀ t : State, (t.marked c g i p).modDev i Device.latchCleared =
      (t.modDev i Device.latchCleared).marked c g i p := by
    intro t
    have cell : (t.setDev i (t.dev i).latchCleared).cell c = t.cell c := rfl
    simp only [State.modDev, Device.latchCleared_released, State.marked, State.touch,
      State.setDev_setDev, State.dev_setDev_self, cell]
    exact (State.setDev_setDev (t.setCell c (g (t.cell c))) i _ _).symm
  have device : ((s.dev i).released p).zone = (s.dev i).zone := rfl
  have disabled : ((s.dev i).released p).disabled = (s.dev i).disabled := rfl
  simp only [State.takeLatch, self, device, disabled, zone, begun]
  split
  · rw [State.touch_create, cleared]
  · split
    · exact State.touch_create c g i _ _
    · exact State.marked_recompute c g i p _

theorem State.marked_takeChange : (s.marked c g i p).takeChange i = (s.takeChange i).marked c g i p := by
  have counted : (s.marked c g i p).counted i = s.counted i := by
    unfold State.counted
    rw [State.marked_dev_self]
    rfl
  unfold State.takeChange
  rw [counted, State.marked_dev_self]
  split
  · exact State.marked_recompute c g i p _
  · rfl

end

/-- What an evaluation hands to the Zone Table: its latch, or a change from condition a to b (R67, R98). -/
def State.handed (s : State) (i : DevIx) (latch : Option (Nat × Nat)) (a b : Cond) : State :=
  match latch with
  | some (level, elapsed) => s.takeLatch i level elapsed
  | none => if b = a then s else s.takeChange i

theorem State.marked_handed (c : CellIx) (g : Cell → Cell) (i : DevIx) (p : Prop) [Decidable p]
    (latch : Option (Nat × Nat)) (a b : Cond) :
    (s.marked c g i p).handed i latch a b = (s.handed i latch a b).marked c g i p := by
  unfold State.handed
  split
  · exact State.marked_takeLatch c g i p _ _
  · split
    · rfl
    · exact State.marked_takeChange c g i p

theorem State.evaluate_eq (s : State) (i : DevIx) (r : Byte) :
    let e := evaluation (s.setting i) (s.dev i) r
    s.evaluate i r = ((s.setDev i e.d).createAll e.events).handed i e.latch (s.dev i).cond e.d.cond := rfl

/-! ### The frame of an entry (R5, R6, R12, R47, R64) -/

/-- The state of an entry after an accepted frame (R5, R6). -/
def Device.lifeAfterFrame (d : Device) : Life :=
  let life := if d.life = .missing then if d.kind = .smoke ∧ d.smoke.baseline = none then .calibrating else .supervised
    else d.life
  if life = .calibrating ∧ d.kind ≠ .smoke then .supervised else life

/-- What every accepted frame does to its entry (R47 steps 1 to 3). -/
def Device.heardFrame (d : Device) (f : Sample) (arrival : Fin 8192) : Device :=
  { d with
    life := d.lifeAfterFrame
    missCount := if d.life = .missing then 0 else d.missCount
    heard := true
    offset := some ((arrival.val : Int) - (if f.path = 0 then 655 else 3277)) }

/-- What a new frame does to its entry besides (R12, R47 step 4, R64). -/
def Device.newFrame (d : Device) (f : Sample) (arrival : Fin 8192) : Device :=
  { d.heardFrame f arrival with
    lastSeq := some f.seq
    battery := some f.battery
    faults := { d.faults with
      lowBattery := if f.battery.val ≤ 1 then true else if 3 ≤ f.battery.val then false else d.faults.lowBattery } }

/-- The event of a restoration (R6). -/
def Device.missingEvents (d : Device) (i : DevIx) : List EventBody :=
  if d.life = .missing then [.deviceRestored i .missing] else []

/-- The event of a battery class (R64). -/
def Device.batteryEvents (d : Device) (i : DevIx) (b : Fin 8) : List EventBody :=
  if b.val ≤ 1 ∧ d.faults.lowBattery = false then [.deviceFault i .lowBattery]
  else if 3 ≤ b.val ∧ d.faults.lowBattery = true then [.deviceRestored i (.cause .lowBattery)] else []

/-- The record with its LowBattery cause set to v (R64). -/
def Device.withLowBattery (d : Device) (v : Bool) : Device := { d with faults := { d.faults with lowBattery := v } }

theorem Device.withLowBattery_self {d : Device} {v : Bool} (h : d.faults.lowBattery = v) :
    d.withLowBattery v = d := by
  rw [← h]
  rfl

theorem Eval.fail_lowBattery (e : Eval) (x : Setting) : e.fail x .lowBattery =
    { d := e.d.withLowBattery true
      events := e.events ++ if e.d.faults.lowBattery = false then [.deviceFault x.i .lowBattery] else [] } := by
  cases h : e.d.faults.lowBattery with
  | true => simp [Eval.fail, FaultSet.has, h, Device.withLowBattery_self h]
  | false => simp [Eval.fail, FaultSet.has, h, Device.withLowBattery, FaultSet.put]

theorem Eval.restore_lowBattery (e : Eval) (x : Setting) : e.restore x .lowBattery =
    { d := e.d.withLowBattery false
      events := e.events ++
        if e.d.faults.lowBattery = true then [.deviceRestored x.i (.cause .lowBattery)] else [] } := by
  cases h : e.d.faults.lowBattery with
  | true => simp [Eval.restore, FaultSet.has, h, Device.withLowBattery, FaultSet.put]
  | false => simp [Eval.restore, FaultSet.has, h, Device.withLowBattery_self h]

theorem Eval.batteryClass_eq (e : Eval) (x : Setting) (b : Fin 8) : e.batteryClass x b =
    { d := ({ e.d with battery := some b } : Device).withLowBattery
        (if b.val ≤ 1 then true else if 3 ≤ b.val then false else e.d.faults.lowBattery)
      events := e.events ++ e.d.batteryEvents x.i b } := by
  by_cases low : b.val ≤ 1
  · have high : ¬3 ≤ b.val := by omega
    simp only [Eval.batteryClass, Device.batteryEvents, low, high, if_true, true_and, false_and, if_false,
      Eval.fail_lowBattery]
  · by_cases high : 3 ≤ b.val
    · simp only [Eval.batteryClass, Device.batteryEvents, low, high, if_true, true_and, false_and, if_false,
        Eval.restore_lowBattery]
    · simp only [Eval.batteryClass, Device.batteryEvents, low, high, false_and, if_false, List.append_nil]
      rfl

/-- The restoration of a Missing entry (R6). -/
theorem Eval.unmiss_eq (d : Device) (x : Setting) : ({ d := d } : Eval).unmiss x =
    { d := { d with
        life := if d.life = .missing then d.restoredLife else d.life
        missCount := if d.life = .missing then 0 else d.missCount }
      events := d.missingEvents x.i } := by
  by_cases h : d.life = .missing
  · simp [Eval.unmiss, Device.missingEvents, h]
  · simp [Eval.unmiss, Device.missingEvents, h]

/-- The state of an entry after its frame, for a record with the kind and the state that restoration leaves (R5). -/
theorem Device.calibratedByFrame_eq (d : Device) : d.calibratedByFrame =
    { d with life := if d.life = .calibrating ∧ d.kind ≠ .smoke then .supervised else d.life } := by
  unfold Device.calibratedByFrame
  split <;> rfl

theorem frameTaken_repeat {x : Setting} {d : Device} {f : Sample} {arrival : Fin 8192} (h : d.lastSeq = some f.seq) :
    frameTaken x d f arrival = { d := d.heardFrame f arrival, events := d.missingEvents x.i } := by
  have again : d.isRepeat f.seq = true := by simp [Device.isRepeat, h]
  simp only [frameTaken, again, if_true, Eval.unmiss_eq, Device.calibratedByFrame_eq]
  rfl

theorem frameTaken_new {x : Setting} {d : Device} {f : Sample} {arrival : Fin 8192} (h : d.lastSeq ≠ some f.seq) :
    frameTaken x d f arrival =
      { d := d.newFrame f arrival, events := d.missingEvents x.i ++ d.batteryEvents x.i f.battery } := by
  have fresh : d.isRepeat f.seq = false := by simp [Device.isRepeat, h]
  simp only [frameTaken, fresh, Bool.false_eq_true, if_false, Eval.unmiss_eq, Eval.batteryClass_eq,
    Device.calibratedByFrame_eq]
  rfl

end Sys2Proof.Machine

/-! ## An accepted frame from its copy to the zones (R36, R47, R98) -/

namespace Sys2Proof.Machine

variable {s t u : State}

/-! ### What the Zone Table's handling of a device leaves (R98 to R105) -/

theorem State.keepsLinks_recompute (s : State) (z : ZoneIx) : s.keepsLinks (s.recompute z) := by
  unfold State.recompute
  dsimp only
  split
  · exact s.keepsLinks_refl
  · exact State.keepsLinks.trans ⟨rfl, rfl, rfl, rfl, rfl, rfl, rfl, rfl, rfl⟩ (State.keepsLinks_create _ _)

/-- The handling of a latch or change of the entry at index i: beside its zone, the site alarm count and events it
clears a latch of the entry at most (R98 to R101, R105). -/
structure State.handsOver (s t : State) (i : DevIx) : Prop where
  links : s.keepsLinks t
  clocks : s.keepsClocks t
  time : t.time = s.time
  store : t.store = s.store
  cells : t.cells = s.cells
  zones : ∀ z, z ≠ (s.dev i).zone → t.zone z = s.zone z
  others : ∀ k, k ≠ i → t.dev k = s.dev k
  self : t.dev i = s.dev i ∨ t.dev i = (s.dev i).latchCleared

theorem State.handsOver_refl (s : State) (i : DevIx) : s.handsOver s i :=
  ⟨s.keepsLinks_refl, s.keepsClocks_refl, rfl, rfl, rfl, fun _ _ => rfl, fun _ _ => rfl, .inl rfl⟩

theorem State.handsOver_create (s : State) (i : DevIx) (b : EventBody) : s.handsOver (s.create b) i :=
  ⟨s.keepsLinks_create b, s.keepsClocks_create b, by simp, by simp, by simp, fun _ _ => by simp, fun _ _ => by simp,
    .inl (by simp)⟩

theorem State.handsOver_recompute (s : State) (i : DevIx) : s.handsOver (s.recompute (s.dev i).zone) i :=
  ⟨s.keepsLinks_recompute _, ⟨by simp, by simp, by simp⟩, by simp, by simp, by simp,
    fun _ h => s.recompute_zone_of_ne h, fun _ _ => by simp, .inl (by simp)⟩

/-- A step that leaves the entry's record, followed by another. -/
theorem State.handsOver.trans {i : DevIx} (h : s.handsOver t i) (h' : t.handsOver u i) (e : t.dev i = s.dev i) :
    s.handsOver u i where
  links := h.links.trans h'.links
  clocks := h.clocks.trans h'.clocks
  time := h'.time.trans h.time
  store := h'.store.trans h.store
  cells := h'.cells.trans h.cells
  zones z hz := (h'.zones z (by rwa [e])).trans (h.zones z hz)
  others k hk := (h'.others k hk).trans (h.others k hk)
  self := by rw [← e]; exact h'.self

theorem State.handsOver_beginLatch (s : State) (i : DevIx) (level elapsed : Nat) :
    s.handsOver (s.beginLatch i level elapsed) i ∧ (s.beginLatch i level elapsed).dev i = s.dev i := by
  refine ⟨?_, (State.create_dev _ _ _).trans rfl⟩
  refine State.handsOver.trans (t := { s.modZone (s.dev i).zone _ with siteCount := s.siteCount + 1 }) ?_
    (State.handsOver_create _ i _) rfl
  exact ⟨⟨rfl, rfl, rfl, rfl, rfl, rfl, rfl, rfl, rfl⟩, ⟨rfl, rfl, rfl⟩, rfl, rfl, rfl,
    fun z hz => (State.zone_setZone _ _ _ _).trans (if_neg hz), fun _ _ => rfl, .inl rfl⟩

theorem State.handsOver_takeLatch (s : State) (i : DevIx) (level elapsed : Nat) :
    s.handsOver (s.takeLatch i level elapsed) i := by
  unfold State.takeLatch
  dsimp only
  split
  · have cleared : (s.create (.testActivation i (s.dev i).zone level)).handsOver
        ((s.create (.testActivation i (s.dev i).zone level)).modDev i Device.latchCleared) i :=
      ⟨⟨rfl, rfl, rfl, rfl, rfl, rfl, rfl, rfl, rfl⟩, ⟨rfl, rfl, rfl⟩, rfl, rfl, rfl, fun _ _ => rfl,
        fun k hk => (State.dev_setDev _ _ _ _).trans (if_neg hk),
        .inr ((State.dev_setDev _ _ _ _).trans (if_pos rfl))⟩
    exact (s.handsOver_create i _).trans cleared (s.create_dev _ i)
  · split
    · exact s.handsOver_create i _
    · obtain ⟨begun, self⟩ := s.handsOver_beginLatch i level elapsed
      have again := State.handsOver_recompute (s.beginLatch i level elapsed) i
      rw [self] at again
      exact begun.trans again self

theorem State.handsOver_handed (s : State) (i : DevIx) (latch : Option (Nat × Nat)) (a b : Cond) :
    s.handsOver (s.handed i latch a b) i := by
  unfold State.handed State.takeChange
  split
  · exact s.handsOver_takeLatch i _ _
  · split
    · exact s.handsOver_refl i
    · split
      · exact s.handsOver_recompute i
      · exact s.handsOver_refl i

/-! ### The steps of an accepted copy -/

/-- The cycle slot record of a cell after a frame: a report marks the interval's slot Heard (R42). -/
def Uplink.marks (v : Uplink) (slot : Option Slot) (slots : Vector SlotEntry 48) : Vector SlotEntry 48 :=
  match v, slot with
  | .report _, some h => slots.set h .heard
  | _, _ => slots

/-- The cell record after an accepted copy's marks: the slot record and the work list (R33, R42). -/
def Cell.marked (v : Uplink) (slot : Option Slot) (f : Sample) (r : Cell) : Cell :=
  { r with
    slots := v.marks slot r.slots
    work := r.work ++ [{ path := f.path, identity := f.identity, outcome := .accepted }] }

/-- The record of an entry whose Route Table has learnt from a copy (R55). -/
def Device.learned (d : Device) (f : Sample) (x : Copy) : Device :=
  { d with routes := d.routes.learn f.path x.level.val }

/-- The cell record with a frame on its list (R36). -/
def Cell.framing (r : Cell) (f : Sample) (i : DevIx) (via : SlotKind) : Cell :=
  { r with frames := r.frames ++ [{ index := i, identity := f.identity, seq := f.seq, via := via }] }

/-- The state in which supervision takes a frame: the routes taught and the frame listed (R36). -/
def State.framing (s : State) (c : CellIx) (x : Copy) (f : Sample) (i : DevIx) (via : SlotKind) : State :=
  ((s.atTick x.taken).setDev i ((s.dev i).learned f x)).setCell c ((s.cell c).framing f i via)

theorem State.handFrame_eq (c : CellIx) (i : DevIx) (via : SlotKind) (f : Sample) (x : Copy)
    (h : s.frameOf f.identity = none) :
    (s.atTick x.taken).handFrame c i via f x = (s.framing c x f i via).acceptFrame i f x.arrival := by
  have h : (s.atTick x.taken).frameOf f.identity = none := h
  simp only [State.handFrame, h, Option.isSome_none, Bool.false_eq_true, if_false]
  rfl

/-- The marks of an accepted report (R20, R42). -/
theorem State.reportMarks_eq (c : CellIx) (i : DevIx) (via : SlotKind) (f : Sample) (t : State) :
    t.reportMarks c i via = t.touch c (fun r => { r with slots := (Uplink.report f).marks t.time.slot r.slots }) i
      (Device.released (via = .home)) := by
  have keeps : ∀ t : State, t = t.setDev i ((t.dev i).released (SlotKind.shadow = .home)) := fun t =>
    (t.setDev_self i).symm
  unfold State.reportMarks Uplink.marks State.touch
  cases hs : t.time.slot with
  | none =>
    have cell : t.setCell c (t.cell c) = t := by simp [State.setCell, State.cell]
    cases via with
    | home => rw [cell]; rfl
    | shadow => rw [cell]; exact keeps t
  | some h =>
    cases via with
    | home => rfl
    | shadow => exact keeps _

end Sys2Proof.Machine

/-! ## Accepted frames (R36, R47, R98) -/

namespace Sys2Proof.Machine

variable {s t u : State}

/-! ### The evaluation of an accepted frame -/

theorem State.evaluate_of_repeater {i : DevIx} (h : (s.dev i).kind = .repeater) (r : Byte) : s.evaluate i r = s := by
  have idle : evaluation (s.setting i) (s.dev i) r = { d := s.dev i, events := [], latch := none } := if_pos h
  rw [State.evaluate_eq, idle]
  exact (if_pos rfl).trans (s.setDev_self i)

theorem State.setDev_createAll (s : State) (i : DevIx) (d : Device) (bs : List EventBody) :
    (s.createAll bs).setDev i d = (s.setDev i d).createAll bs := by
  induction bs generalizing s with
  | nil => rfl
  | cons b bs ih =>
    have cells : (s.create b).cells = s.cells := s.create_cells b
    have roster : (s.create b).roster = s.roster := s.create_roster b
    have created : (s.create b).setDev i d = (s.setDev i d).create b := by
      refine Eq.trans ?_ (s.create_with (s.roster.set i d) s.cells b).symm
      simp only [State.setDev, roster, ← cells]
    rw [State.createAll_cons, State.createAll_cons, ih, created]

/-- A repeat is supervised and not evaluated (R12). -/
theorem State.acceptFrame_repeat {i : DevIx} {f : Sample} (arrival : Fin 8192) (h : (s.dev i).lastSeq = some f.seq) :
    s.acceptFrame i f arrival =
      (s.setDev i ((s.dev i).heardFrame f arrival)).createAll ((s.dev i).missingEvents i) := by
  have again : (s.dev i).isRepeat f.seq = true := by simp [Device.isRepeat, h]
  simp only [State.acceptFrame, again, Bool.true_or, if_true, frameTaken_repeat h]
  rfl

/-- A new frame is supervised, then evaluated, and its outcome handed to the Zone Table (R47, R65, R98). -/
theorem State.acceptFrame_new {i : DevIx} {f : Sample} (arrival : Fin 8192) (h : (s.dev i).lastSeq ≠ some f.seq) :
    let e := evaluation (s.setting i) ((s.dev i).newFrame f arrival) f.reading
    s.acceptFrame i f arrival =
      ((s.setDev i e.d).createAll
        ((s.dev i).missingEvents i ++ (s.dev i).batteryEvents i f.battery ++ e.events)).handed i e.latch
          (s.dev i).cond e.d.cond := by
  have fresh : (s.dev i).isRepeat f.seq = false := by simp [Device.isRepeat, h]
  let t := (s.setDev i ((s.dev i).newFrame f arrival)).createAll
    ((s.dev i).missingEvents i ++ (s.dev i).batteryEvents i f.battery)
  have dev : t.dev i = (s.dev i).newFrame f arrival := by
    rw [State.createAll_dev, State.dev_setDev_self]
  have accepted : s.acceptFrame i f arrival = t.evaluate i f.reading := by
    by_cases hk : (s.dev i).kind = .repeater
    · rw [State.evaluate_of_repeater (by rw [dev]; exact hk)]
      simp only [State.acceptFrame, frameTaken_new h, hk, beq_self_eq_true, Bool.or_true, if_true]
      rfl
    · have hk : ((s.dev i).kind == .repeater) = false := by simpa using hk
      simp only [State.acceptFrame, frameTaken_new h, fresh, hk, Bool.or_self, Bool.false_eq_true, if_false]
      rfl
  have setting : t.setting i = s.setting i := by
    simp only [State.setting, dev]
    simp [t]
    rfl
  have written : ∀ d, t.setDev i d = (s.setDev i d).createAll
      ((s.dev i).missingEvents i ++ (s.dev i).batteryEvents i f.battery) := by
    intro d
    rw [State.setDev_createAll, State.setDev_setDev]
  intro e
  rw [accepted, State.evaluate_eq, setting, dev, written, ← State.createAll_append]
  rfl

theorem State.acceptFrame_time (i : DevIx) (f : Sample) (arrival : Fin 8192) :
    (s.acceptFrame i f arrival).time = s.time := by
  by_cases h : (s.dev i).lastSeq = some f.seq
  · rw [State.acceptFrame_repeat arrival h, State.createAll_time]
    rfl
  · rw [State.acceptFrame_new arrival h, (State.handsOver_handed _ _ _ _ _).time, State.createAll_time]
    rfl

/-! ### The copy -/

theorem Device.released_congr {p q : Prop} [Decidable p] [Decidable q] (h : p ↔ q) :
    Device.released p = Device.released q := by
  funext d
  simp only [Device.released, h]

theorem State.touch_modCell (c : CellIx) (g g' : Cell → Cell) (i : DevIx) (h : Device → Device) :
    (s.touch c g i h).setCell c (g' ((s.touch c g i h).cell c)) = s.touch c (g' ∘ g) i h := by
  have cell : (s.touch c g i h).cell c = g (s.cell c) := State.cell_setCell_self _ _ _
  rw [cell]
  exact State.setCell_setCell (s.setDev i (h (s.dev i))) c _ _

/-- The first copy of an identity in the interval: its frame is accepted, then its marks are made and its copy listed
(R33, R36, R42, R20). -/
theorem State.exec_receivedCopy_first {c : CellIx} {x : Copy} {v : Uplink} {f : Sample} {i : DevIx} {via : SlotKind}
    (h : acceptedFirst s c x v f i via) : exec (.receivedCopy c x) s =
      .next (((s.framing c x f i via).acceptFrame i f x.arrival).marked c (Cell.marked v s.time.slot f) i
        (v = .report f ∧ via = .home)) := by
  obtain ⟨⟨hp, ho, hd, hx, ht, hi, hg, hv, hu, hw, hn, hacc, hm⟩, hfirst⟩ := h
  have none := (State.frameOf_eq_none s f.identity).mpr hfirst
  have path : v.path = f.path := by rcases hu with rfl | rfl <;> rfl
  have identity : v.identity = f.identity := by rcases hu with rfl | rfl <;> rfl
  have hm : (s.atTick x.taken).matchCopy c v = some (i, via) := hm
  have frame := State.handFrame_eq c i via f x none
  have none' : (s.atTick x.taken).frameOf f.identity = Option.none := none
  rw [State.exec_receivedCopy_examine hp ho hd hx ht hi hg hv hw (by rwa [path]),
    State.examine_accepted (show (s.atTick x.taken).copyOutcome c _ _ = _ from hacc), path, identity]
  rcases hu with rfl | rfl
  · have slot : ((s.framing c x f i via).acceptFrame i f x.arrival).time.slot = s.time.slot := by
      rw [State.acceptFrame_time]
      rfl
    have handed : (s.atTick x.taken).handCopy c (.report f) x =
        ((s.framing c x f i via).acceptFrame i f x.arrival).touch c
          (fun r => { r with slots := (Uplink.report f).marks s.time.slot r.slots }) i
            (Device.released (Uplink.report f = .report f ∧ via = .home)) := by
      rw [Device.released_congr (q := via = .home) (by simp)]
      simp only [State.handCopy, hm, none', frame, Option.isSome_none, Bool.false_eq_true, if_false]
      rw [State.reportMarks_eq c i via f, slot]
    rw [handed]
    exact congrArg _ (State.touch_modCell c _ (fun r => { r with
      work := r.work ++ [{ path := f.path, identity := f.identity, outcome := .accepted }] }) i _)
  · have handed : (s.atTick x.taken).handCopy c (.alarm f) x = (s.framing c x f i via).acceptFrame i f x.arrival := by
      simp only [State.handCopy, hm, frame]
    have kept : ∀ d : Device, d.released (Uplink.alarm f = .report f ∧ via = .home) = d := by
      intro d
      simp [Device.released]
    rw [handed]
    simp only [State.marked, State.touch, kept]
    exact congrArg _ (State.setDev_self _ i).symm

/-- The state that supervision leaves to the Zone Table, with the marks of the frame made. -/
theorem State.marked_evaluated (c : CellIx) (x : Copy) (v : Uplink) (f : Sample) (i : DevIx) (via : SlotKind)
    (d : Device) (bs : List EventBody) (slot : Option Slot) (p : Prop) [Decidable p] :
    (((s.framing c x f i via).setDev i d).createAll bs).marked c (Cell.marked v slot f) i p =
      (((s.atTick x.taken).setCell c (Cell.marked v slot f ((s.cell c).framing f i via))).setDev i
        (d.released p)).createAll bs := by
  have dev : ((s.framing c x f i via).setDev i d).dev i = d := State.dev_setDev_self _ _ _
  have cell : ((s.framing c x f i via).setDev i d).cell c = (s.cell c).framing f i via := State.cell_setCell_self _ _ _
  have marks : ((s.framing c x f i via).setDev i d).marked c (Cell.marked v slot f) i p =
      ((s.atTick x.taken).setCell c (Cell.marked v slot f ((s.cell c).framing f i via))).setDev i (d.released p) := by
    rw [State.marked, State.touch, dev, cell]
    simp only [State.framing, State.setDev, State.setCell, State.atTick, Vector.set_set]
  rw [State.marked, ← State.touch_createAll]
  exact congrArg (State.createAll · bs) marks

theorem State.handed_eq (t : State) (i : DevIx) (latch : Option (Nat × Nat)) (a b : Cond) :
    t.handed i latch a b = match latch with
      | some (level, elapsed) => t.takeLatch i level elapsed
      | none => if b ≠ a ∧ t.counted i = true then t.recompute (t.dev i).zone else t := by
  cases latch with
  | some p => rfl
  | none =>
    dsimp only [State.handed, State.takeChange]
    by_cases hb : b = a
    · rw [if_pos hb, if_neg fun h => h.1 hb]
    · rw [if_neg hb]
      exact if_congr (by simp [hb]) rfl rfl

/-- Settles O32: the frame's outcome is computed by `acceptFrame_new`, and its marks commute with what the Zone Table
does and with the evaluation. -/
theorem newFrameIsEvaluated : Obligations.NewFrameIsEvaluated := by
  intro s c x v f i via h hseq d r missing life low high taken events e cell t
  let fresh := (d.learned f x).newFrame f x.arrival
  have dev : (s.framing c x f i via).dev i = d.learned f x := State.dev_setDev_self _ _ _
  have setting : (s.framing c x f i via).setting i =
      { i := i, now := s.runClock, zone := s.zone d.zone, holdOff := s.site.holdOff } := by
    simp only [State.setting, dev]
    rfl
  let e' := evaluation ((s.framing c x f i via).setting i) fresh f.reading
  have framed : e = e'.framed taken := by
    have h : taken = fresh.framed taken := rfl
    change evaluation _ taken f.reading = _
    rw [h, ← setting, evaluation_framed]
    rfl
  have released : e'.d.released (v = .report f ∧ via = .home) = e.d := by
    have own : e'.d = e'.d.framed fresh := evaluation_frame _ fresh f.reading
    rw [framed, own]
    rfl
  have accepted := State.acceptFrame_new (s := s.framing c x f i via) x.arrival (f := f) (i := i)
    (by rw [dev]; exact hseq)
  rw [dev] at accepted
  rw [State.exec_receivedCopy_first h, accepted, ← State.marked_handed, State.marked_evaluated]
  have same : (((s.atTick x.taken).setCell c (Cell.marked v s.time.slot f ((s.cell c).framing f i via))).setDev i
      (e'.d.released (v = .report f ∧ via = .home))).createAll
        ((d.learned f x).missingEvents i ++ (d.learned f x).batteryEvents i f.battery ++ e'.events) = t := by
    have told : e'.events = e.events := by rw [framed]; rfl
    have marks : Cell.marked v s.time.slot f ((s.cell c).framing f i via) = cell := rfl
    have before : (d.learned f x).missingEvents i ++ (d.learned f x).batteryEvents i f.battery = events := rfl
    rw [released, told, marks, before]
  have zone : (t.dev i).zone = d.zone := by
    have self : t.dev i = e.d := by rw [State.createAll_dev, State.dev_setDev_self]
    rw [self, framed]
    rfl
  have cond : e'.d.cond = e.d.cond := by rw [framed]; rfl
  have latch : e'.latch = e.latch := by rw [framed]; rfl
  change Host.Outcome.next (State.handed _ i e'.latch _ e'.d.cond) = _
  rw [same, cond, latch]
  refine congrArg _ ?_
  rw [State.handed_eq, zone]
  rfl

end Sys2Proof.Machine

/-! ## Accepted copies reach supervision (R12, R13, R36) -/

namespace Sys2Proof.Machine

variable {s t u : State}

/-- The state in which a frame's record is d, with the frame on the cell's list and the copy's marks made. -/
def State.frameMade (s : State) (c : CellIx) (x : Copy) (v : Uplink) (f : Sample) (i : DevIx) (via : SlotKind)
    (d : Device) : State :=
  ((s.atTick x.taken).setCell c (Cell.marked v s.time.slot f ((s.cell c).framing f i via))).setDev i
    (d.released (v = .report f ∧ via = .home))

/-- An accepted first copy that is a repeat: the heard record and the event of a restoration (R12, R47). -/
theorem State.exec_receivedCopy_repeat {c : CellIx} {x : Copy} {v : Uplink} {f : Sample} {i : DevIx} {via : SlotKind}
    (h : acceptedFirst s c x v f i via) (hseq : (s.dev i).lastSeq = some f.seq) : exec (.receivedCopy c x) s =
      .next ((s.frameMade c x v f i via (((s.dev i).learned f x).heardFrame f x.arrival)).createAll
        ((s.dev i).missingEvents i)) := by
  have dev : (s.framing c x f i via).dev i = (s.dev i).learned f x := State.dev_setDev_self _ _ _
  have accepted := State.acceptFrame_repeat (s := s.framing c x f i via) x.arrival (f := f) (i := i)
    (by rw [dev]; exact hseq)
  rw [State.exec_receivedCopy_first h, accepted, dev, State.marked_evaluated]
  rfl

/-- An accepted first copy: a record, events, and what is handed to the Zone Table. The record has the fields that a new
frame gives it (those of a repeat are the same), and is Supervised or in the state that the frame leaves (R47, R67). -/
theorem State.exec_receivedCopy_outcome {c : CellIx} {x : Copy} {v : Uplink} {f : Sample} {i : DevIx} {via : SlotKind}
    (h : acceptedFirst s c x v f i via) :
    ∃ d bs latch a b, exec (.receivedCopy c x) s =
        .next (((s.frameMade c x v f i via d).createAll bs).handed i latch a b) ∧
      d = d.framed (((s.dev i).learned f x).newFrame f x.arrival) ∧
      (d.life = (s.dev i).lifeAfterFrame ∨ d.life = .supervised) := by
  by_cases hseq : (s.dev i).lastSeq = some f.seq
  · refine ⟨_, _, none, .quiet, .quiet, State.exec_receivedCopy_repeat h hseq, ?_, .inl rfl⟩
    simp only [Device.framed, Device.newFrame, Device.heardFrame, Device.learned, ← hseq]
  · have dev : (s.framing c x f i via).dev i = (s.dev i).learned f x := State.dev_setDev_self _ _ _
    have accepted := State.acceptFrame_new (s := s.framing c x f i via) x.arrival (f := f) (i := i)
      (by rw [dev]; exact hseq)
    rw [dev] at accepted
    rw [State.exec_receivedCopy_first h, accepted, ← State.marked_handed, State.marked_evaluated]
    exact ⟨_, _, _, _, _, rfl, evaluation_frame _ _ _, evaluation_life _ _ _⟩

theorem Device.latchCleared_framed (d k : Device) : (d.framed k).latchCleared = d.latchCleared.framed k := by
  have kind : (d.framed k).kind = d.kind := rfl
  unfold Device.latchCleared Device.verifCleared
  rw [kind]
  split <;> rfl

theorem Device.lifeAfterFrame_ne_missing (d : Device) : d.lifeAfterFrame ≠ .missing := by
  have branches : ∀ (p : Prop) [Decidable p] (a b : Life), a ≠ .missing → b ≠ .missing →
      (if p then a else b) ≠ .missing := by
    intro p _ a b ha hb
    split <;> assumption
  refine branches _ _ _ nofun ?_
  by_cases h : d.life = .missing
  · rw [if_pos h]
    exact branches _ _ _ nofun nofun
  · rwa [if_neg h]

/-- What an accepted first copy does, by the record d that it leaves before the Zone Table is handed its outcome. -/
theorem State.frameMade_spec {c : CellIx} {x : Copy} {v : Uplink} {f : Sample} {i : DevIx} {via : SlotKind}
    {d k : Device} (bs : List EventBody) (hd : d = d.framed k) (hz : k.zone = (s.dev i).zone)
    (hl : d.life ≠ .missing) (ht : ((s.frameMade c x v f i via d).createAll bs).handsOver t i) :
    s.keepsLinks t ∧ s.keepsClocks t ∧ t.store = s.store ∧ t.time = (s.atTick x.taken).time ∧
      (∀ b, b ≠ c → t.cell b = s.cell b) ∧ (∀ z, z ≠ (s.dev i).zone → t.zone z = s.zone z) ∧
      (t.cell c).stats = (s.cell c).stats ∧ (∀ k, k ≠ i → t.dev k = s.dev k) ∧
      (t.cell c).frames = (s.cell c).frames ++
        [{ index := i, identity := f.identity, seq := f.seq, via := via }] ∧
      (∀ h, v = .report f → s.time.slot = some h → (t.cell c).slots = (s.cell c).slots.set h .heard) ∧
      (v = .alarm f → (t.cell c).slots = (s.cell c).slots) ∧
      ∃ e : Device, t.dev i = (e.framed k).released (v = .report f ∧ via = .home) ∧ e.life ≠ .missing := by
  obtain ⟨links, clocks, time, store, cells, zones, others, self⟩ := ht
  have made : ((s.frameMade c x v f i via d).createAll bs).dev i = d.released (v = .report f ∧ via = .home) := by
    rw [State.createAll_dev]
    exact State.dev_setDev_self _ _ _
  have cell : t.cell c = Cell.marked v s.time.slot f ((s.cell c).framing f i via) := by
    rw [State.cell, cells, State.createAll_cells]
    exact State.cell_setCell_self _ _ _
  have begun : s.keepsLinks (s.frameMade c x v f i via d) ∧ s.keepsClocks (s.frameMade c x v f i via d) :=
    ⟨⟨rfl, rfl, rfl, rfl, rfl, rfl, rfl, rfl, rfl⟩, ⟨rfl, rfl, rfl⟩⟩
  refine ⟨(begun.1.trans (State.keepsLinks_createAll _ _)).trans links,
    (begun.2.trans (State.keepsClocks_createAll _ _)).trans clocks, ?_, ?_, fun b hb => ?_, fun z hz' => ?_, ?_,
    fun k hk => ?_, ?_, fun h hv hs => ?_, fun hv => ?_, ?_⟩
  · rw [store, State.createAll_store]; rfl
  · rw [time, State.createAll_time]; rfl
  · rw [State.cell, cells, State.createAll_cells]
    exact (State.cell_setCell _ _ _ _).trans (if_neg hb)
  · rw [zones z (by rw [made, hd]; exact hz ▸ hz'), State.createAll_zone]
    rfl
  · rw [cell]; rfl
  · rw [others k hk, State.createAll_dev]
    exact (State.dev_setDev _ _ _ _).trans (if_neg hk)
  · rw [cell]; rfl
  · rw [cell, hv, hs]; rfl
  · rw [cell, hv]; rfl
  · rw [made] at self
    rcases self with e | e
    · exact ⟨d, by rw [e, ← hd], hl⟩
    · refine ⟨d.latchCleared, by rw [e, Device.latchCleared_released, ← Device.latchCleared_framed, ← hd], ?_⟩
      rw [show d.latchCleared.life = d.life from ?_]
      · exact hl
      · unfold Device.latchCleared Device.verifCleared
        split <;> rfl

/-- A later copy of an identity teaches the Route Table and goes onto the work list (R36). -/
theorem State.exec_receivedCopy_later {c b : CellIx} {x : Copy} {v : Uplink} {f : Sample} {i : DevIx} {via : SlotKind}
    {g : FrameEntry} (h : acceptedCopy s c x v f i via) (hg : g ∈ (s.cell b).frames) (hid : g.identity = f.identity) :
    exec (.receivedCopy c x) s = .next (((s.atTick x.taken).setCell c { s.cell c with
      work := (s.cell c).work ++ [{ path := f.path, identity := f.identity, outcome := .accepted }] }).setDev i
        ((s.dev i).learned f x)) := by
  obtain ⟨hp, ho, hd, hx, ht, hi, hgood, hv, hu, hw, hn, hacc, hm⟩ := h
  have path : v.path = f.path := by rcases hu with rfl | rfl <;> rfl
  have identity : v.identity = f.identity := by rcases hu with rfl | rfl <;> rfl
  have hm : (s.atTick x.taken).matchCopy c v = some (i, via) := hm
  have seen : ((s.atTick x.taken).frameOf f.identity).isSome = true := by
    refine Option.isSome_iff_ne_none.mpr fun none => ?_
    exact (State.frameOf_eq_none s f.identity).mp none b g hg hid
  have handed : (s.atTick x.taken).handCopy c v x = (s.atTick x.taken).setDev i ((s.dev i).learned f x) := by
    have learned := State.handFrame_later (s := s.atTick x.taken) (c := c) (i := i) (via := via) (f := f) (x := x) seen
    rcases hu with rfl | rfl
    · simp only [State.handCopy, hm, seen, if_true, learned]; rfl
    · simp only [State.handCopy, hm, learned]; rfl
  rw [State.exec_receivedCopy_examine hp ho hd hx ht hi hgood hv hw (by rwa [path]),
    State.examine_accepted (show (s.atTick x.taken).copyOutcome c _ _ = _ from hacc), path, identity, handed]
  rfl

/-- Settles O31: the first copy and the repeat by the records they leave, later copies by their own rule. -/
theorem acceptedFrameReachesSupervision : Obligations.AcceptedFrameReachesSupervision := by
  refine ⟨fun s c x v f i via h => ?_, fun s c x v f i via h hseq => ?_, fun s c b x v f i via g h hg hid =>
    State.exec_receivedCopy_later h hg hid⟩
  · obtain ⟨d, bs, latch, a, b, runs, framed, life⟩ := State.exec_receivedCopy_outcome h
    have present : d.life ≠ .missing := by
      rcases life with e | e
      · rw [e]; exact (s.dev i).lifeAfterFrame_ne_missing
      · rw [e]; nofun
    obtain ⟨links, clocks, store, time, cells, zones, stats, others, frames, report, alarm, e, self, alive⟩ :=
      State.frameMade_spec (s := s) (c := c) (x := x) (via := via) bs framed rfl present
        (State.handsOver_handed _ i latch a b)
    refine ⟨_, runs, links, clocks, store, time, cells, zones, stats, ?_, ?_, ?_, ?_, ?_, ?_, ?_, others, frames,
      report, alarm⟩
    · rw [self]; rfl
    · rw [self]; exact alive
    · rw [self]; rfl
    · rw [self]; rfl
    · rw [self]; rfl
    · rw [self]; rfl
    · rw [self]; rfl
  · refine ⟨_, State.exec_receivedCopy_repeat h hseq, ?_⟩
    have self : ((s.frameMade c x v f i via (((s.dev i).learned f x).heardFrame f x.arrival)).createAll
        ((s.dev i).missingEvents i)).dev i = _ := (State.createAll_dev _ _ _).trans (State.dev_setDev_self _ _ _)
    rw [self, State.createAll_zones, State.createAll_siteCount]
    exact ⟨rfl, rfl, rfl, rfl, rfl, rfl, rfl, rfl, rfl⟩

end Sys2Proof.Machine

/-! ## The cycle boundary (R19, R4, R41) -/

namespace Sys2Proof.Machine

variable {s t u : State}

/-! ### One transfer -/

/-- A transfer, record by record: the mover at its target, its old index Vacant, the write of both indices, and its
events (R19, R53, R170). -/
structure State.transfers (s t : State) (i j : DevIx) : Prop where
  links : s.keepsLinks t
  clocks : s.keepsClocks t
  zones : t.zones = s.zones
  siteCount : t.siteCount = s.siteCount
  time : t.time = s.time
  cells : t.cells = s.cells
  source : (t.dev i).life = .vacant
  target : ∃ on fs, t.dev j = { s.dev i with move := none, shadow := some i, outstanding := on, faults := fs } ∧
    fs = { (s.dev i).faults with unsupervised := fs.unsupervised }
  others : ∀ k, k ≠ i → k ≠ j → t.dev k = s.dev k
  idle : s.restart = .idle → (∀ k, (t.dev k).outstanding = (s.dev k).outstanding) ∧ t.covers i ∧ t.covers j ∧
    ∀ k, s.covers k → t.covers k
  restarting : s.restart ≠ .idle → t.store = s.store ∧ (t.dev i).outstanding = true ∧ (t.dev j).outstanding = true
  events : (s.createAll (.moveDone j i :: unsupervisedChange (s.dev i) j (s.cell (homeCell j)))).sameEvents t

/-- The state of a transfer before the target's home cell is looked at. -/
def State.moveWritten (s : State) (i j : DevIx) : State :=
  ((s.relocated i j).requestRoster [i, j]).create (.moveDone j i)

theorem State.moveWritten_eq (s : State) (i j : DevIx) : ∃ ros st,
    s.moveWritten i j = ({ s with roster := ros, store := st } : State).create (.moveDone j i) := by
  rw [State.moveWritten, State.requestRoster_eq]
  exact ⟨_, _, rfl⟩

/-- The records of a transfer: those of the move, flagged while a restart is pending (R4, R170). -/
theorem State.moveWritten_dev (s : State) (i j k : DevIx) : (s.moveWritten i j).dev k =
    if k = i ∨ k = j then { (s.relocated i j).dev k with
      outstanding := if s.restart = .idle then ((s.relocated i j).dev k).outstanding else true } else s.dev k := by
  have other : ¬(k = i ∨ k = j) → (s.relocated i j).dev k = s.dev k := by
    intro h
    rw [State.relocated_dev, if_neg fun e => h (.inl e), if_neg fun e => h (.inr e)]
  rw [State.moveWritten, State.create_dev]
  by_cases hr : s.restart = .idle
  · rw [State.requestRoster_dev_idle (s := s.relocated i j) hr, if_pos hr]
    split
    · rfl
    · next h => exact other h
  · rw [(State.requestRoster_restarting (s := s.relocated i j) hr [i, j]).2, if_neg hr]
    by_cases h : k = i ∨ k = j
    · rw [if_pos h, if_pos (by simpa using h)]
    · rw [if_neg h, if_neg (by simpa using h), other h]

theorem State.transfers_transfer {i j : DevIx} (hij : j ≠ i) (ho : (s.dev i).life.owns = true) :
    s.transfers (s.transfer i j) i j := by
  obtain ⟨ros, st, e⟩ := s.moveWritten_eq i j
  let w := s.moveWritten i j
  have cells : w.cells = s.cells := by rw [show w = _ from e, State.create_cells]
  have target : w.dev j = { s.movedRecord i j with
      outstanding := if s.restart = .idle then (s.dev j).outstanding else true } := by
    rw [State.moveWritten_dev, if_pos (.inr rfl), State.relocated_dev, if_neg hij, if_pos rfl]
    rfl
  have source : w.dev i = { (s.dev i).vacated with
      outstanding := if s.restart = .idle then (s.dev i).outstanding else true } := by
    rw [State.moveWritten_dev, if_pos (.inl rfl), State.relocated_dev, if_pos rfl]
    rfl
  have aligned : s.transfer i j = (w.setDev j ((w.dev j).heldBy (w.cell (homeCell j)))).createAll
      (unsupervisedChange (s.dev i) j (s.cell (homeCell j))) := by
    have home : w.cell (homeCell j) = s.cell (homeCell j) := by rw [State.cell, cells]; rfl
    rw [State.transfer_eq]
    change w.alignUnsupervised j = _
    rw [State.alignUnsupervised_eq (by rw [target]; exact ho), home, target]
    rfl
  have dev : ∀ k, (s.transfer i j).dev k = if k = j then (w.dev j).heldBy (w.cell (homeCell j)) else w.dev k := by
    intro k
    rw [aligned, State.createAll_dev, State.dev_setDev]
  have store : (s.transfer i j).store = ((s.relocated i j).requestRoster [i, j]).store := by
    rw [aligned, State.createAll_store]
    change (((s.relocated i j).requestRoster [i, j]).create _).store = _
    rw [State.create_store]
  have links : s.keepsLinks w := by
    rw [show w = _ from e]
    exact State.keepsLinks.trans ⟨rfl, rfl, rfl, rfl, rfl, rfl, rfl, rfl, rfl⟩ (State.keepsLinks_create _ _)
  have clocks : s.keepsClocks w := by
    rw [show w = _ from e]
    exact State.keepsClocks.trans ⟨rfl, rfl, rfl⟩ (State.keepsClocks_create _ _)
  have kept : s.keepsLinks (s.transfer i j) ∧ s.keepsClocks (s.transfer i j) := by
    rw [aligned]
    exact ⟨links.trans (State.keepsLinks.trans ⟨rfl, rfl, rfl, rfl, rfl, rfl, rfl, rfl, rfl⟩
      (State.keepsLinks_createAll _ _)), clocks.trans (State.keepsClocks.trans ⟨rfl, rfl, rfl⟩
        (State.keepsClocks_createAll _ _))⟩
  have atSource : (s.transfer i j).dev i = { (s.dev i).vacated with
      outstanding := if s.restart = .idle then (s.dev i).outstanding else true } := by
    rw [dev, if_neg (Ne.symm hij), source]
  have atTarget := dev j
  rw [if_pos rfl, target] at atTarget
  have elsewhere : ∀ k, k ≠ i → k ≠ j → (s.transfer i j).dev k = s.dev k := by
    intro k hi hj
    rw [dev, if_neg hj, State.moveWritten_dev, if_neg fun h => h.elim hi hj]
  refine ⟨kept.1, kept.2, ?_, ?_, ?_, ?_, by rw [atSource]; rfl, ⟨_, _, atTarget, rfl⟩, elsewhere, fun hr => ?_,
    fun hr => ?_, ?_⟩
  · rw [aligned, State.createAll_zones]
    exact (congrArg State.zones e).trans (State.create_zones _ _)
  · rw [aligned, State.createAll_siteCount]
    exact (congrArg State.siteCount e).trans (State.create_siteCount _ _)
  · rw [aligned, State.createAll_time]
    exact (congrArg State.time e).trans (State.create_time _ _)
  · rw [aligned, State.createAll_cells]
    exact cells
  · obtain ⟨new, hn, hc⟩ := State.requestRoster_covers (s := s.relocated i j) (ixs := [i, j]) hr (by simp)
    refine ⟨fun k => ?_, ⟨_, by rw [store]; exact hn, new, rfl, hc i (by simp)⟩,
      ⟨_, by rw [store]; exact hn, new, rfl, hc j (by simp)⟩, fun k hk => ?_⟩
    · by_cases hi : k = i
      · rw [hi, atSource, if_pos hr]
      · by_cases hj : k = j
        · rw [hj, atTarget, if_pos hr]; rfl
        · rw [elsewhere k hi hj]
    · have covers : ((s.relocated i j).requestRoster [i, j]).covers k :=
        State.covers.requestRoster (s := s.relocated i j) hk [i, j]
      unfold State.covers
      rw [store]
      exact covers
  · refine ⟨?_, ?_, ?_⟩
    · rw [store]
      exact (State.requestRoster_restarting (s := s.relocated i j) hr [i, j]).1
    · rw [atSource]
      exact if_neg hr
    · rw [atTarget]
      exact if_neg hr
  · rw [aligned, State.createAll_cons]
    have told : (s.create (.moveDone j i)).sameEvents w := by
      rw [show w = _ from e]
      exact State.sameEvents_create _ ⟨rfl, rfl, rfl, rfl⟩ rfl
    exact State.sameEvents_createAll _ (told.trans ⟨rfl, rfl, rfl, rfl⟩)
      (clocks.2.1.trans (s.create_siteTime _).symm)

end Sys2Proof.Machine

/-! ## The transfers of a cycle boundary, in index order (R19) -/

namespace Sys2Proof.Machine

variable {s t u : State} {R : DevIx → DevIx → Prop} {es : List EventBody}

/-- An index that one of the transfers R left or reached. -/
def movedBy (R : DevIx → DevIx → Prop) (k : DevIx) : Prop := ∃ j, R k j ∨ R j k

/-- State u is s after the transfers R, with the events es created. -/
structure State.transferred (s : State) (R : DevIx → DevIx → Prop) (es : List EventBody) (u : State) : Prop where
  links : s.keepsLinks u
  clocks : s.keepsClocks u
  zones : u.zones = s.zones
  siteCount : u.siteCount = s.siteCount
  time : u.time = s.time
  cells : u.cells = s.cells
  events : (s.createAll es).sameEvents u
  source : ∀ i j, R i j → (u.dev i).life = .vacant
  target : ∀ i j, R i j → ∃ on fs,
    u.dev j = { s.dev i with move := none, shadow := some i, outstanding := on, faults := fs } ∧
      fs = { (s.dev i).faults with unsupervised := fs.unsupervised }
  others : ∀ k, ¬movedBy R k → u.dev k = s.dev k
  idle : s.restart = .idle → (∀ k, (u.dev k).outstanding = (s.dev k).outstanding) ∧
    (∀ k, movedBy R k → u.covers k) ∧ ((∀ k, ¬movedBy R k) → u.store = s.store)
  restarting : s.restart ≠ .idle → u.store = s.store ∧ ∀ k, movedBy R k → (u.dev k).outstanding = true

theorem State.transferred_refl (s : State) : s.transferred (fun _ _ => False) [] s where
  links := s.keepsLinks_refl
  clocks := s.keepsClocks_refl
  zones := rfl
  siteCount := rfl
  time := rfl
  cells := rfl
  events := s.sameEvents_refl
  source _ _ := False.elim
  target _ _ := False.elim
  others _ _ := rfl
  idle _ := ⟨fun _ => rfl, fun _ ⟨_, h⟩ => (h.elim id id).elim, fun _ => rfl⟩
  restarting _ := ⟨rfl, fun _ ⟨_, h⟩ => (h.elim id id).elim⟩

/-- The transfers R with that of i to j. -/
def withMove (R : DevIx → DevIx → Prop) (i j : DevIx) (a b : DevIx) : Prop := R a b ∨ (a = i ∧ b = j)

theorem movedBy_withMove {i j k : DevIx} : movedBy (withMove R i j) k ↔ movedBy R k ∨ k = i ∨ k = j := by
  constructor
  · rintro ⟨b, (h | ⟨rfl, rfl⟩) | (h | ⟨rfl, rfl⟩)⟩
    · exact .inl ⟨b, .inl h⟩
    · exact .inr (.inl rfl)
    · exact .inl ⟨b, .inr h⟩
    · exact .inr (.inr rfl)
  · rintro (⟨b, h | h⟩ | rfl | rfl)
    · exact ⟨b, .inl (.inl h)⟩
    · exact ⟨b, .inr (.inl h)⟩
    · exact ⟨j, .inl (.inr ⟨rfl, rfl⟩)⟩
    · exact ⟨i, .inr (.inr ⟨rfl, rfl⟩)⟩

/-- One more transfer, between indices that no transfer has touched. -/
theorem State.transferred.step {i j : DevIx} (h : s.transferred R es u) (h' : u.transfers t i j)
    (hi : ¬movedBy R i) (hj : ¬movedBy R j) :
    s.transferred (withMove R i j)
      (es ++ .moveDone j i :: unsupervisedChange (s.dev i) j (s.cell (homeCell j))) t := by
  have devI := h.others i hi
  have restart : u.restart = s.restart := h.clocks.2.2
  have untouched : ∀ k, movedBy R k → k ≠ i ∧ k ≠ j := fun k hk => ⟨fun e => hi (e ▸ hk), fun e => hj (e ▸ hk)⟩
  refine ⟨h.links.trans h'.links, h.clocks.trans h'.clocks, h'.zones.trans h.zones, h'.siteCount.trans h.siteCount,
    h'.time.trans h.time, h'.cells.trans h.cells, ?_, ?_, ?_, fun k hk => ?_, fun hr => ?_, fun hr => ?_⟩
  · have home : u.cell (homeCell j) = s.cell (homeCell j) := by rw [State.cell, h.cells]; rfl
    have told := h'.events
    rw [devI, home] at told
    rw [State.createAll_append]
    exact (State.sameEvents_createAll _ h.events (by simpa using h.clocks.2.1)).trans told
  · rintro a b (hab | ⟨rfl, rfl⟩)
    · obtain ⟨hai, haj⟩ := untouched a ⟨b, .inl hab⟩
      rw [h'.others a hai haj]
      exact h.source a b hab
    · exact h'.source
  · rintro a b (hab | ⟨rfl, rfl⟩)
    · obtain ⟨hbi, hbj⟩ := untouched b ⟨a, .inr hab⟩
      rw [h'.others b hbi hbj]
      exact h.target a b hab
    · rw [← devI]
      exact h'.target
  · rw [movedBy_withMove, not_or, not_or] at hk
    obtain ⟨hk, hki, hkj⟩ := hk
    rw [h'.others k hki hkj, h.others k hk]
  · obtain ⟨flags, covered, still⟩ := h.idle hr
    obtain ⟨flags', coversI, coversJ, covers⟩ := h'.idle (restart.trans hr)
    refine ⟨fun k => (flags' k).trans (flags k), fun k hk => ?_, fun none => ?_⟩
    · rcases movedBy_withMove.mp hk with hk | rfl | rfl
      · exact covers k (covered k hk)
      · exact coversI
      · exact coversJ
    · exact absurd (movedBy_withMove.mpr (.inr (.inl rfl))) (none i)
  · obtain ⟨store, flags⟩ := h.restarting hr
    obtain ⟨store', flagI, flagJ⟩ := h'.restarting (by rwa [restart])
    refine ⟨store'.trans store, fun k hk => ?_⟩
    rcases movedBy_withMove.mp hk with hk | rfl | rfl
    · obtain ⟨hki, hkj⟩ := untouched k hk
      rw [h'.others k hki hkj]
      exact flags k hk
    · exact flagI
    · exact flagJ

/-- The Announced moves of the indices of a list. -/
def State.movesOf (s : State) (l : List DevIx) (i j : DevIx) : Prop :=
  i ∈ l ∧ (s.dev i).announcedTarget = some j

/-- The events of the transfer of the entry at index i, when its move is Announced (R19, R53). -/
def State.moveEvents (s : State) (i : DevIx) : List EventBody :=
  match (s.dev i).announcedTarget with
  | some j => .moveDone j i :: unsupervisedChange (s.dev i) j (s.cell (homeCell j))
  | none => []

/-- In a state that obeys the roster law an Announced move leads an owning entry to a Vacant index that no other entry
claims (R1, R17). -/
theorem State.rosterSound.announced (hs : s.rosterSound) {i j : DevIx} (h : (s.dev i).announcedTarget = some j) :
    (s.dev i).life.owns = true ∧ (s.dev j).life = .vacant ∧
      ∀ k, (s.dev k).announcedTarget = some j → k = i := by
  obtain ⟨hd, hslots, -⟩ := hs
  have claims : ∀ {k}, (s.dev k).announcedTarget = some j → (s.dev k).claims j := fun h =>
    Device.claims_iff.mpr (.inr ⟨_, Device.announcedTarget_eq_some.mp h, rfl⟩)
  obtain ⟨vacant, alone⟩ := hslots j i (claims h)
  exact ⟨(hd i).owns_of_claims (claims h), vacant, fun k hk => alone k (claims hk)⟩

/-- The transfers of a list of indices after those of other indices, in their order (R19). -/
theorem State.transferred_foldl (hs : s.rosterSound) (l : List DevIx) :
    ∀ (done : List DevIx) (u : State), (done ++ l).Nodup →
      s.transferred (s.movesOf done) (done.flatMap s.moveEvents) u →
      s.transferred (s.movesOf (done ++ l)) ((done ++ l).flatMap s.moveEvents) (l.foldl State.transferAnnounced u) := by
  induction l with
  | nil =>
    intro done u _ h
    simpa using h
  | cons i l ih =>
    intro done u hn h
    have fresh : i ∉ done := fun hi => (List.nodup_append.mp hn).2.2 i hi i (by simp) rfl
    have next : s.transferred (s.movesOf (done ++ [i])) ((done ++ [i]).flatMap s.moveEvents)
        (u.transferAnnounced i) := by
      rw [List.flatMap_append, List.flatMap_singleton]
      cases hm : (s.dev i).announcedTarget with
      | none =>
        have stays : (u.dev i).announcedTarget = none := by
          by_cases hk : movedBy (s.movesOf done) i
          · obtain ⟨b, ⟨hi, -⟩ | hb⟩ := hk
            · exact absurd hi fresh
            · obtain ⟨on, fs, e, -⟩ := h.target b i hb
              rw [e]
              rfl
          · rw [h.others i hk, hm]
        have moves : s.movesOf (done ++ [i]) = s.movesOf done := by
          funext a b
          simp only [State.movesOf, List.mem_append, List.mem_singleton, eq_iff_iff]
          constructor
          · rintro ⟨ha | rfl, hab⟩
            · exact ⟨ha, hab⟩
            · rw [hm] at hab; cases hab
          · exact fun ⟨ha, hab⟩ => ⟨.inl ha, hab⟩
        rw [State.transferAnnounced, stays, moves, State.moveEvents, hm]
        simpa using h
      | some j =>
        obtain ⟨owns, vacant, alone⟩ := hs.announced hm
        have moves : s.movesOf (done ++ [i]) = withMove (s.movesOf done) i j := by
          funext a b
          simp only [State.movesOf, withMove, List.mem_append, List.mem_singleton, eq_iff_iff]
          constructor
          · rintro ⟨ha | rfl, hab⟩
            · exact .inl ⟨ha, hab⟩
            · rw [hm] at hab; exact .inr ⟨rfl, (Option.some.inj hab).symm⟩
          · rintro (⟨ha, hab⟩ | ⟨rfl, rfl⟩)
            · exact ⟨.inl ha, hab⟩
            · exact ⟨.inr rfl, hm⟩
        have sourceFresh : ¬movedBy (s.movesOf done) i := by
          rintro ⟨b, ⟨hi, -⟩ | ⟨-, hb⟩⟩
          · exact fresh hi
          · exact Life.ne_vacant_of_owns owns (hs.announced hb).2.1
        have targetFresh : ¬movedBy (s.movesOf done) j := by
          rintro ⟨b, ⟨-, hb⟩ | ⟨hb, hj⟩⟩
          · exact Life.ne_vacant_of_owns (hs.announced hb).1 vacant
          · exact fresh (alone b hj ▸ hb)
        have apart : j ≠ i := fun e => Life.ne_vacant_of_owns owns (e ▸ vacant)
        have same := h.others i sourceFresh
        have runs : u.transferAnnounced i = u.transfer i j := by rw [State.transferAnnounced, same, hm]
        rw [moves, runs, State.moveEvents, hm]
        exact h.step (State.transfers_transfer apart (by rwa [same])) sourceFresh targetFresh
    simpa using ih (done ++ [i]) (u.transferAnnounced i) (by simpa using hn) next

/-- The transfers of a cycle boundary (R19). -/
theorem State.transferred_announced (hs : s.rosterSound) :
    s.transferred (fun i j => (s.dev i).announcedTarget = some j) (allDevs.flatMap s.moveEvents)
      (allDevs.foldl State.transferAnnounced s) := by
  have start : s.movesOf [] = fun _ _ => False := by
    funext i j
    simp [State.movesOf]
  have all : s.movesOf allDevs = fun i j => (s.dev i).announcedTarget = some j := by
    funext i j
    simp [State.movesOf, mem_allDevs]
  have moved := State.transferred_foldl hs allDevs [] s (List.nodup_finRange _) (by
    rw [start]
    exact s.transferred_refl)
  rwa [List.nil_append, all] at moved

/-! ## Retries (R4) -/

/-- The retries of a cycle boundary change the store alone, and every index flagged is covered (R4, R170). -/
theorem State.retryOutstanding_spec (s : State) : ∃ st, s.retryOutstanding = { s with store := st } ∧
    (s.restart = .idle → (∀ k, (s.dev k).outstanding = true → s.retryOutstanding.covers k) ∧
      (∀ k, s.covers k → s.retryOutstanding.covers k) ∧ ((∀ k, (s.dev k).outstanding = false) → st = s.store)) ∧
    (s.restart ≠ .idle → st = s.store) := by
  unfold State.retryOutstanding
  by_cases hr : s.restart = .idle
  · rw [if_pos hr]
    have written : s.requestRoster s.outstandingSet = { s with store := (s.requestRoster s.outstandingSet).store } := by
      rcases s.requestRoster_cases s.outstandingSet with ⟨-, e⟩ | ⟨-, e⟩ | ⟨h, -⟩
      · rw [e]
      · rw [e]
        rcases s.requestWrite_cases (.roster s.outstandingSet) with ⟨-, -, e⟩ | e
        · rw [e]; rfl
        · rw [e]
      · exact absurd hr h
    refine ⟨_, written, fun _ => ⟨fun k hk => ?_, fun k hk => hk.requestRoster _, fun none => ?_⟩, absurd hr⟩
    · have listed : k ∈ s.outstandingSet := List.mem_filter.mpr ⟨mem_allDevs k, hk⟩
      obtain ⟨new, hn, hc⟩ := State.requestRoster_covers hr (List.ne_nil_of_mem listed)
      exact ⟨_, hn, new, rfl, hc k listed⟩
    · have empty : s.outstandingSet = [] := List.filter_eq_nil_iff.mpr fun k _ => by simp [none k]
      rw [empty]
      rfl
  · rw [if_neg hr]
    exact ⟨s.store, rfl, fun h => absurd h hr, fun _ => rfl⟩

/-! ## The cycle slot records (R41) -/

/-- The cycle slot record of a cell that the owners of a state make (R41). -/
def State.prepared (s : State) (c : CellIx) (r : Cell) : Cell :=
  if r.state = .absent then r
  else { r with slots := Vector.ofFn fun h => if s.slotOwned c h then SlotEntry.expecting else .unowned }

theorem State.prepared_prepared (s : State) (c : CellIx) (r : Cell) :
    s.prepared c (s.prepared c r) = s.prepared c r := by
  by_cases h : r.state = .absent
  · have same : s.prepared c r = r := if_pos h
    rw [same, same]
  · unfold State.prepared
    rw [if_neg h]
    exact if_neg h

theorem State.prepareSlots_eq (s : State) (c : CellIx) : s.prepareSlots c = s.setCell c (s.prepared c (s.cell c)) := by
  unfold State.prepareSlots State.prepared
  split
  · simp [State.setCell, State.cell]
  · rfl

/-- The preparation of the slot records of a list of cells. -/
theorem State.prepareSlots_foldl (l : List CellIx) (s : State) : ∃ cs : Vector Cell 4,
    l.foldl State.prepareSlots s = { s with cells := cs } ∧
      ∀ c, cs[c] = if c ∈ l then s.prepared c (s.cell c) else s.cell c := by
  induction l generalizing s with
  | nil => exact ⟨s.cells, rfl, fun c => by simp [State.cell]⟩
  | cons b l ih =>
    obtain ⟨cs, e, h⟩ := ih (s.prepareSlots b)
    refine ⟨cs, by rw [List.foldl_cons, e, State.prepareSlots_eq]; rfl, fun c => ?_⟩
    have owners : ∀ r, (s.setCell b (s.prepared b (s.cell b))).prepared c r = s.prepared c r := fun _ => rfl
    rw [h, State.prepareSlots_eq, State.cell_setCell, owners]
    by_cases hb : c = b
    · simp [hb, State.prepared_prepared]
    · simp [hb]

end Sys2Proof.Machine

/-! ## The cycle boundary whole (R4, R19, R41, R170) -/

namespace Sys2Proof.Machine

variable {s t u : State}

/-- A slot is owned as the home slot of an owning entry, or as the shadow slot of one (R1, R41). -/
theorem State.slotOwned_iff {c : CellIx} {h : Slot} : s.slotOwned c h = true ↔
    (s.dev (slotIndex c h)).life.owns = true ∨
      ∃ k, (s.dev k).life.owns = true ∧ (s.dev k).shadow = some (slotIndex c h) := by
  simp only [State.slotOwned, State.shadowHolder, Bool.or_eq_true, State.findDev_isSome, Device.shadows_iff]

/-- The prepared slot record of a cell that is not Absent (R41). -/
theorem State.prepared_slots {c : CellIx} {r : Cell} (h : r.state ≠ .absent) (k : Slot) :
    (s.prepared c r).slots[k] = if (s.dev (slotIndex c k)).life.owns = true ∨
      ∃ j, (s.dev j).life.owns = true ∧ (s.dev j).shadow = some (slotIndex c k)
    then SlotEntry.expecting else SlotEntry.unowned := by
  have slots : (s.prepared c r).slots =
      Vector.ofFn fun k => if s.slotOwned c k then SlotEntry.expecting else .unowned := by
    rw [State.prepared, if_neg h]
  rw [slots, vector_getElem_ofFn]
  exact if_congr State.slotOwned_iff rfl rfl

/-- The state in which a cycle boundary is handled: its mark taken back (log 3). -/
def State.atBoundary (s : State) : State := { s with time := { s.time with cycleDue := false } }

/-- Settles O39: the transfers by induction over the indices, then the retries and the slot records. -/
theorem cycleBoundaryTransfersMoves : Obligations.CycleBoundaryTransfersMoves := by
  intro s hp hdue hr hs moves moved tells
  have runs : exec .cycleBoundary s = .next s.atBoundary.cycleBoundary := by
    change Host.Outcome.next (s.whenRunning fun s => if s.time.cycleDue ∧ s.restart ≠ .due then
      s.atBoundary.cycleBoundary else s) = _
    rw [State.whenRunning, if_pos hp, if_pos ⟨hdue, hr⟩]
  have B := State.transferred_announced (s := s.atBoundary) hs
  obtain ⟨a, ha⟩ : ∃ a, a = allDevs.foldl State.transferAnnounced s.atBoundary := ⟨_, rfl⟩
  rw [← ha] at B
  obtain ⟨st, e, idle, held⟩ := a.retryOutstanding_spec
  obtain ⟨cs, e', cells⟩ := State.prepareSlots_foldl allCells a.retryOutstanding
  have whole : s.atBoundary.cycleBoundary = { a with store := st, cells := cs } := by
    change allCells.foldl State.prepareSlots (allDevs.foldl State.transferAnnounced s.atBoundary).retryOutstanding = _
    rw [← ha, e', e]
  have move : ∀ i j, (s.dev i).announcedTarget = some j ↔ moves i j := fun i j => Device.announcedTarget_eq_some
  have movedIff : ∀ k, movedBy (fun i j => (s.dev i).announcedTarget = some j) k ↔ moved k := fun k =>
    exists_congr fun j => or_congr (move k j) (move j k)
  have told : allDevs.flatMap tells = allDevs.flatMap s.atBoundary.moveEvents := by
    refine congrArg (allDevs.flatMap ·) (funext fun i => ?_)
    change (match (s.dev i).move with
      | some { target := j, stage := .announced } =>
        EventBody.moveDone j i :: unsupervisedChange (s.dev i) j (s.cell (homeCell j))
      | _ => []) = s.moveEvents i
    unfold State.moveEvents Device.announcedTarget
    rcases (s.dev i).move with _ | ⟨j, _ | _⟩ <;> rfl
  have restart : a.restart = s.restart := B.clocks.2.2
  refine ⟨{ a with store := st, cells := cs }, by rw [runs, whole], B.links, B.clocks, B.zones, B.siteCount, B.time, ?_,
    fun i j h => ⟨B.source i j ((move i j).mpr h), B.target i j ((move i j).mpr h)⟩, fun k hk => ?_, fun hi => ?_,
    fun hi => ?_, fun c h hc => ?_⟩
  · rw [told]
    have marked : (s.createAll (allDevs.flatMap s.atBoundary.moveEvents)).sameEvents
        (s.atBoundary.createAll (allDevs.flatMap s.atBoundary.moveEvents)) :=
      State.sameEvents_createAll _ ⟨rfl, rfl, rfl, rfl⟩ rfl
    exact marked.trans (B.events.trans ⟨rfl, rfl, rfl, rfl⟩)
  · exact ⟨(s.dev k).outstanding, B.others k (mt (movedIff k).mp hk)⟩
  · obtain ⟨flags, covered, still⟩ := B.idle hi
    obtain ⟨retried, covers, none⟩ := idle (restart.trans hi)
    have coveredBy : ∀ k, a.retryOutstanding.covers k →
        ∃ j ∈ st.jobs, ∃ ixs, j = .roster ixs ∧ k ∈ ixs := by
      intro k hk
      rw [e] at hk
      exact hk
    refine ⟨flags, fun k hk => coveredBy k ?_, fun quiet => ?_⟩
    · rcases hk with hk | hk
      · exact covers k (covered k ((movedIff k).mpr hk))
      · exact retried k ((flags k).trans hk)
    · have unmoved : a.store = s.store := still fun k hk => (quiet k).1 ((movedIff k).mp hk)
      exact (none fun k => (flags k).trans (quiet k).2).trans unmoved
  · obtain ⟨store, flagged⟩ := B.restarting hi
    refine ⟨(held (by rwa [restart])).trans store, fun k => ?_⟩
    by_cases hk : moved k
    · exact ⟨fun _ => .inl hk, fun _ => flagged k ((movedIff k).mpr hk)⟩
    · have same : a.dev k = s.dev k := B.others k (mt (movedIff k).mp hk)
      change (a.dev k).outstanding = true ↔ _
      rw [same]
      exact ⟨.inr, fun h => h.resolve_left hk⟩
  · have cell : a.cell c = s.cell c := by rw [State.cell, B.cells]; rfl
    have prepared : cs[c] = a.prepared c (s.cell c) := by
      rw [cells c, if_pos (show c ∈ allCells from List.mem_finRange c), e]
      change a.prepared c (a.cell c) = _
      rw [cell]
    change cs[c].slots[h] = _
    rw [prepared, State.prepared_slots hc]
    rfl

end Sys2Proof.Machine

/-! ## Zone and cell operands, and Stop Cell and Start Cell (R29, R30) -/

namespace Sys2Proof.Machine

variable {s t u : State} {h : FrameHead} {c : Command} {ops : List Byte}

/-- Check 5 of R155 for a cell: the boundary is 3. -/
theorem cellTarget_of_ge {b : Byte} (hb : 4 ≤ b.toNat) :
    cellTarget b = .error { result := .badTarget, value := b.toNat } := dif_neg (by omega)

theorem cellTarget_of_eq {b : Byte} {i : CellIx} (hb : b.toNat = i.val) : cellTarget b = .ok i := by
  have lt : b.toNat < 4 := hb ▸ i.isLt
  rw [cellTarget, dif_pos lt]
  exact congrArg _ (Fin.ext hb)

/-- Check 6 of R155, as the cell's state decides it. -/
theorem State.checkFitted_eq (s : State) (b : CellIx) : s.checkFitted b =
    if (s.cell b).state = .absent then .error { result := .cellAbsent } else .ok () := by
  split
  · next ha => exact check_of_not (by simp [ha]) _ _
  · next ha => exact check_of (by simpa using ha) _ _

/-- A command whose effect is a new record of one cell (R157). -/
theorem State.command_setsCell {body : State → Except Reply (Reply × State)} (ht : s.takes h c)
    (hn : ops.length = c.operands) {b : CellIx} {x : Cell}
    (hb : body (s.taken h) = .ok (doneReply, (s.taken h).setCell b x)) :
    s.command h c ops body = ((s.taken h).setCell b x).sends h.link h.tag { result := .done } :=
  State.command_carried ht hn hb (State.answers_of_port ht.answers (by simp))

/-- The table of R29: what Stop Cell does and answers in each state of the cell. -/
theorem stopCell_eq {b : Byte} {k : CellIx} (hb : b.toNat = k.val) : stopCell [b] s =
    match (s.cell k).state with
    | .absent => .error { result := .cellAbsent }
    | .running => .ok (doneReply, s.setCell k { s.cell k with state := .stopping })
    | .stopping => .error { result := .noChange }
    | .off =>
      if (s.cell k).startPending then .ok (doneReply, s.setCell k { s.cell k with startPending := false })
      else .error { result := .noChange }
    | .failed => .ok (doneReply, s.setCell k { s.cell k with state := .off, unconfirmed := 0 }) := by
  simp only [stopCell, cellTarget_of_eq hb, ok_bind, State.checkFitted_eq]
  cases hs : (s.cell k).state <;> rfl

/-- The table of R30: what Start Cell does and answers in each state of the cell. -/
theorem startCell_eq {b : Byte} {k : CellIx} (hb : b.toNat = k.val) : startCell [b] s =
    match (s.cell k).state with
    | .absent => .error { result := .cellAbsent }
    | .off =>
      if (s.cell k).startPending then .error { result := .noChange }
      else .ok (doneReply, s.setCell k { s.cell k with startPending := true })
    | .stopping => .ok (doneReply, s.setCell k { s.cell k with state := .running })
    | .running => .error { result := .noChange }
    | .failed => .error { result := .noChange } := by
  simp only [startCell, cellTarget_of_eq hb, ok_bind, State.checkFitted_eq]
  cases hs : (s.cell k).state <;> rfl

theorem stopCell_bad_target {b : Byte} (hb : 4 ≤ b.toNat) :
    stopCell [b] s = .error { result := .badTarget, value := b.toNat } := by
  simp only [stopCell, cellTarget_of_ge hb, error_bind]

theorem startCell_bad_target {b : Byte} (hb : 4 ≤ b.toNat) :
    startCell [b] s = .error { result := .badTarget, value := b.toNat } := by
  simp only [startCell, cellTarget_of_ge hb, error_bind]

/-- Settles O22: the tables of R29 and R30, state by state. -/
theorem stopAndStartCellByState : Obligations.StopAndStartCellByState := by
  refine ⟨fun s h b ht => ?_, fun s h b ht => ?_⟩
  · have refused : ∀ {r v}, stopCell [b] (s.taken h) = .error { result := r, value := v } →
        s.refuses h r v (exec (.stopCell h [b]) s) := fun e => State.command_refuses ht rfl e
    have done : ∀ {k x}, stopCell [b] (s.taken h) = .ok (doneReply, (s.taken h).setCell k x) →
        exec (.stopCell h [b]) s = .next (((s.taken h).setCell k x).sends h.link h.tag { result := .done }) :=
      fun e => congrArg _ (State.command_setsCell ht rfl e)
    refine ⟨fun hb => refused (stopCell_bad_target hb), fun k hb => ?_⟩
    have decided := stopCell_eq (s := s.taken h) hb
    rw [State.taken_cell] at decided
    dsimp only
    cases hs : (s.cell k).state with
    | absent => exact refused (by rw [decided, hs])
    | running => exact done (by rw [decided, hs])
    | stopping => exact refused (by rw [decided, hs])
    | off => rw [hs] at decided; exact ite_of_eq_ite decided (fun e => by rw [← hs]; exact done e) refused
    | failed => exact done (by rw [decided, hs])
  · have refused : ∀ {r v}, startCell [b] (s.taken h) = .error { result := r, value := v } →
        s.refuses h r v (exec (.startCell h [b]) s) := fun e => State.command_refuses ht rfl e
    have done : ∀ {k x}, startCell [b] (s.taken h) = .ok (doneReply, (s.taken h).setCell k x) →
        exec (.startCell h [b]) s = .next (((s.taken h).setCell k x).sends h.link h.tag { result := .done }) :=
      fun e => congrArg _ (State.command_setsCell ht rfl e)
    refine ⟨fun hb => refused (startCell_bad_target hb), fun k hb => ?_⟩
    have decided := startCell_eq (s := s.taken h) hb
    rw [State.taken_cell] at decided
    dsimp only
    cases hs : (s.cell k).state with
    | absent => exact refused (by rw [decided, hs])
    | running => exact refused (by rw [decided, hs])
    | stopping => exact done (by rw [decided, hs])
    | off => rw [hs] at decided; exact ite_of_eq_ite decided refused fun e => by rw [← hs]; exact done e
    | failed => exact refused (by rw [decided, hs])

end Sys2Proof.Machine

/-! ## Select Profile, Set Time and Clear Cell Statistics (R44, R110, R129, R130) -/

namespace Sys2Proof.Machine

variable {s t u : State} {h : FrameHead}

/-- Check 5 of R155 for a zone: the boundary is 31. -/
theorem zoneTarget_of_ge {b : Byte} (hb : 32 ≤ b.toNat) :
    zoneTarget b = .error { result := .badTarget, value := b.toNat } := dif_neg (by omega)

theorem zoneTarget_of_eq {b : Byte} {i : ZoneIx} (hb : b.toNat = i.val) : zoneTarget b = .ok i := by
  have lt : b.toNat < 32 := hb ▸ i.isLt
  rw [zoneTarget, dif_pos lt]
  exact congrArg _ (Fin.ext hb)

/-- One check of a chain that decides what a step leaves. -/
theorem next_ite_of_eq_ite {α : Type} {p : Prop} [Decidable p] {x y z : α} {a b : State}
    {o : Host.Outcome State Fault Refusal} (e : x = if p then y else z)
    (ha : x = y → o = .next a) (hb : x = z → o = .next b) : o = .next (if p then a else b) := by
  split
  · next h => exact ha (by rw [e, if_pos h])
  · next h => exact hb (by rw [e, if_neg h])

@[simp] theorem State.taken_zone (s : State) (h : FrameHead) (z : ZoneIx) : (s.taken h).zone z = s.zone z := by
  obtain ⟨l, key, tag, level⟩ := h
  cases l <;> rfl

@[simp] theorem State.taken_runClock (s : State) (h : FrameHead) : (s.taken h).runClock = s.runClock := by
  obtain ⟨l, key, tag, level⟩ := h
  cases l <;> rfl

@[simp] theorem State.taken_mayOperate (s : State) (h : FrameHead) (l : Link) :
    (s.taken h).mayOperate l = s.mayOperate l := by
  obtain ⟨m, key, tag, level⟩ := h
  cases m <;> cases l <;> rfl

/-- The checks of Select Profile from an attached link in their order, and its effect (R129). -/
theorem selectProfile_eq {b p m : Byte} {z : ZoneIx} (hb : b.toNat = z.val) (hm : s.mayOperate h.link = true) :
    selectProfile h [b, p, m] s =
      if 2 ≤ p.toNat then .error { result := .badValue }
      else if p.toNat = 1 then
        .ok (doneReply (profileMinutes m), (s.setZone z { s.zone z with
          profile := .service, profileExpiry := some (s.runClock + 240 * profileMinutes m) }).create
          (.profileChanged z .service (some h.link) (profileMinutes m)))
      else if (s.zone z).profile = .normal then .error { result := .noChange }
      else .ok (doneReply, (s.setZone z { s.zone z with profile := .normal, profileExpiry := none }).create
        (.profileChanged z .normal (some h.link) 0)) := by
  simp only [selectProfile, zoneTarget_of_eq hb, ok_bind, State.checkAttached, check_of hm, profileOperand]
  rcases hp : p.toNat with _ | _ | n
  · rfl
  · rfl
  · rw [if_pos (show 2 ≤ n + 1 + 1 by omega)]
    rfl

/-- Whether a zone's Service profile has reached its expiry (R110). -/
theorem State.profileExpired_iff {z : ZoneIx} : s.profileExpired z = true ↔
    (s.zone z).profile = .service ∧ ∃ t ∈ (s.zone z).profileExpiry, t ≤ s.runClock := by
  unfold State.profileExpired
  cases (s.zone z).profileExpiry <;> simp

/-- The checks of Clear Cell Statistics in their order, and its effect (R44). -/
theorem clearCellStatistics_eq {b : Byte} {k : CellIx} (hb : b.toNat = k.val) : clearCellStatistics [b] s =
    if (s.cell k).state = .absent then .error { result := .cellAbsent }
    else if (s.cell k).stats = {} then .error { result := .noChange }
    else .ok (doneReply, s.setCell k { s.cell k with stats := {} }) := by
  simp only [clearCellStatistics, cellTarget_of_eq hb, ok_bind, State.checkFitted_eq]
  split
  · rfl
  · rfl

theorem clearCellStatistics_bad_target {b : Byte} (hb : 4 ≤ b.toNat) :
    clearCellStatistics [b] s = .error { result := .badTarget, value := b.toNat } := by
  simp only [clearCellStatistics, cellTarget_of_ge hb, error_bind]

/-- Settles O17: each clause reads one branch of the checks of R129, R110, R130 and R44. -/
theorem profileTimeAndStatistics : Obligations.ProfileTimeAndStatistics := by
  refine ⟨fun s z => ⟨fun h b p m ht hm hb => ?_, fun hp => ?_⟩, fun s h a b c d ht hm => ?_, fun s h b ht => ?_⟩
  · have refused : ∀ {r v}, selectProfile h [b, p, m] (s.taken h) = .error { result := r, value := v } →
        s.refuses h r v (exec (.selectProfile h [b, p, m]) s) := fun e => State.command_refuses ht rfl e
    have done : ∀ {r x y}, selectProfile h [b, p, m] (s.taken h) = .ok (r, ((s.taken h).setZone z x).create y) →
        exec (.selectProfile h [b, p, m]) s = .next ((((s.taken h).setZone z x).create y).sends h.link h.tag r) :=
      fun e => congrArg _ (State.command_carried ht rfl e (State.answers_of_port ht.answers (by simp)))
    have decided := selectProfile_eq (s := s.taken h) (p := p) (m := m) hb (by simpa using hm)
    simp only [State.taken_zone, State.taken_runClock] at decided
    refine next_ite_of_eq_ite decided refused fun decided => ?_
    refine next_ite_of_eq_ite decided done fun decided => ?_
    exact next_ite_of_eq_ite decided refused done
  · change Host.Outcome.next (s.whenRunning fun s => if s.profileExpired z then s.endProfile z else s) = _
    rw [State.whenRunning, if_pos hp]
    exact congrArg _ (if_congr State.profileExpired_iff rfl rfl)
  · have sent : setTime h [a, b, c, d] (s.taken h) =
        .ok (doneReply, { s.taken h with siteTime := a ++ b ++ c ++ d }) := by
      simp only [setTime, State.checkAttached, State.taken_mayOperate, check_of hm, ok_bind]
      rfl
    have port : ∀ (v : State) (x : BitVec 32) l, ({ v with siteTime := x } : State).port l = v.port l := by
      intro v x l
      cases l <;> rfl
    exact congrArg _ (State.command_carried ht rfl sent (State.answers_of_port ht.answers (port _ _ _)))
  · have refused : ∀ {r v}, clearCellStatistics [b] (s.taken h) = .error { result := r, value := v } →
        s.refuses h r v (exec (.clearCellStatistics h [b]) s) := fun e => State.command_refuses ht rfl e
    have done : ∀ {k x}, clearCellStatistics [b] (s.taken h) = .ok (doneReply, (s.taken h).setCell k x) →
        exec (.clearCellStatistics h [b]) s = .next (((s.taken h).setCell k x).sends h.link h.tag { result := .done }) :=
      fun e => congrArg _ (State.command_setsCell ht rfl e)
    refine ⟨fun hb => refused (clearCellStatistics_bad_target hb), fun k hb => ?_⟩
    have decided := clearCellStatistics_eq (s := s.taken h) hb
    simp only [State.taken_cell] at decided
    refine next_ite_of_eq_ite decided refused fun decided => ?_
    exact next_ite_of_eq_ite decided refused done

end Sys2Proof.Machine

/-! ## Set Zone Parameters, Set Site Parameters and Set Cell Channel (R31, R92, R93, R159) -/

namespace Sys2Proof.Machine

variable {s t u : State} {h : FrameHead}

/-- A two-byte operand as a number (R174). -/
theorem be16_toNat (hi lo : Byte) : (be16 hi lo).toNat = 256 * hi.toNat + lo.toNat := by
  have shifted : hi.toNat <<< 8 + lo.toNat = hi.toNat <<< 8 ||| lo.toNat := Nat.shiftLeft_add_eq_or_of_lt lo.isLt _
  rw [be16, BitVec.toNat_append, ← shifted, Nat.shiftLeft_eq, Nat.mul_comm]

theorem thresholdsOk_iff {x y : Nat} :
    thresholdsOk x y = true ↔ 3 ≤ x ∧ x ≤ 200 ∧ x + 1 ≤ y ∧ y ≤ 240 := by
  simp [thresholdsOk, and_assoc]

/-- The operands of a mode (R174). -/
theorem modeOperand_known {b : Byte} (hb : b.toNat ≤ 1) :
    modeOperand b = some (if b.toNat = 0 then .single else .corroborated) := by
  unfold modeOperand
  interval_cases b.toNat <;> rfl

theorem modeOperand_unknown {b : Byte} (hb : ¬b.toNat ≤ 1) : modeOperand b = none := by
  unfold modeOperand
  split
  · omega
  · omega
  · rfl

/-- The operands of Set Zone Parameters: BAD_VALUE, or the set after clamping (R92). -/
theorem zoneParamsOperand_eq (mode cwHi cwLo npre nfire spre sfire v vw n l tfix pre rise : Byte) :
    zoneParamsOperand mode cwHi cwLo npre nfire spre sfire v vw n l tfix pre rise =
      if mode.toNat ≤ 1 ∧ thresholdsOk npre.toNat nfire.toNat = true ∧ thresholdsOk spre.toNat sfire.toNat = true ∧
        clamp 0 100 n.toNat < clamp 20 120 l.toNat
      then .ok
        { mode := if mode.toNat = 0 then .single else .corroborated
          corrWindow := clamp 30 600 (256 * cwHi.toNat + cwLo.toNat)
          normalTpre := npre.toNat, normalTfire := nfire.toNat
          serviceTpre := spre.toNat, serviceTfire := sfire.toNat
          verifications := clamp 1 4 v.toNat, verifWindow := clamp 6 120 vw.toNat
          nominal := clamp 0 100 n.toNat, compLimit := clamp 20 120 l.toNat
          tfix := clamp 100 180 tfix.toNat, preOffset := clamp 4 40 pre.toNat, rrise := clamp 6 40 rise.toNat }
      else .error { result := .badValue } := by
  simp only [zoneParamsOperand, be16_toNat]
  by_cases hm : mode.toNat ≤ 1
  · by_cases ok : thresholdsOk npre.toNat nfire.toNat = true ∧ thresholdsOk spre.toNat sfire.toNat = true ∧
        clamp 0 100 n.toNat < clamp 20 120 l.toNat
    · obtain ⟨hn, hs, hl⟩ := ok
      rw [modeOperand_known hm, if_pos (And.intro hm ⟨hn, hs, hl⟩)]
      exact if_neg (by simp [hn, hs, hl])
    · rw [modeOperand_known hm, if_neg (fun h : _ ∧ _ => ok h.2)]
      refine if_pos ?_
      simpa only [Bool.or_eq_true, Bool.not_eq_true', decide_eq_true_eq, ← Nat.not_lt,
        ← Bool.not_eq_true, ← not_and_or, and_assoc] using ok
  · rw [modeOperand_unknown hm, if_neg (fun h : _ ∧ _ => hm h.1)]
    rfl

theorem setZoneParameters_bad_target {b mode cwHi cwLo npre nfire spre sfire v vw n l tfix pre rise : Byte}
    (hb : 32 ≤ b.toNat) :
    setZoneParameters [b, mode, cwHi, cwLo, npre, nfire, spre, sfire, v, vw, n, l, tfix, pre, rise] s =
      .error { result := .badTarget, value := b.toNat } := by
  simp only [setZoneParameters, zoneTarget_of_ge hb, error_bind]

/-- The decision of Set Zone Parameters from the set its operands make (R92, R93). -/
theorem setZoneParameters_eq {b mode cwHi cwLo npre nfire spre sfire v vw n l tfix pre rise : Byte} {z : ZoneIx}
    (hb : b.toNat = z.val) :
    setZoneParameters [b, mode, cwHi, cwLo, npre, nfire, spre, sfire, v, vw, n, l, tfix, pre, rise] s =
      match zoneParamsOperand mode cwHi cwLo npre nfire spre sfire v vw n l tfix pre rise with
      | .error r => .error r
      | .ok p => if p = (s.zone z).params then .error { result := .noChange } else .ok (.zone z p) := by
  simp only [setZoneParameters, zoneTarget_of_eq hb, ok_bind]
  cases zoneParamsOperand mode cwHi cwLo npre nfire spre sfire v vw n l tfix pre rise <;> rfl

/-- The operands of Set Site Parameters after clamping (R159). -/
theorem siteParamsOperand_eq (miss age hi lo wf ww ws : Byte) : siteParamsOperand miss age hi lo wf ww ws =
    { missLimit := clamp 2 10 miss.toNat, routeAge := clamp 4 64 age.toNat
      holdOff := clamp 60 3600 (256 * hi.toNat + lo.toNat)
      wFault := clamp 1 15 wf.toNat, wWarning := clamp 1 15 ww.toNat, wStatus := clamp 1 15 ws.toNat } := by
  rw [siteParamsOperand, be16_toNat]

/-- A channel is taken when another cell that is not Absent has it (R31). -/
theorem State.channelTaken_iff {c : CellIx} {ch : Channel} : s.channelTaken c ch = true ↔
    ∃ k, k ≠ c ∧ (s.cell k).state ≠ .absent ∧ (s.cell k).channel = ch := by
  simp [State.channelTaken, allCells, and_assoc]

theorem setCellChannel_bad_target {b bc : Byte} (hb : 4 ≤ b.toNat) :
    setCellChannel [b, bc] s = .error { result := .badTarget, value := b.toNat } := by
  simp only [setCellChannel, cellTarget_of_ge hb, error_bind]

/-- The first checks of Set Cell Channel: the cell is Off (R31). -/
theorem setCellChannel_of_not_off {b bc : Byte} {c : CellIx} (hb : b.toNat = c.val) (hs : (s.cell c).state ≠ .off) :
    setCellChannel [b, bc] s =
      .error { result := if (s.cell c).state = .absent then .cellAbsent else .wrongState } := by
  simp only [setCellChannel, cellTarget_of_eq hb, ok_bind, State.checkFitted_eq]
  split
  · rfl
  · rw [check_of_not (by simpa using hs)]; rfl

theorem setCellChannel_bad_channel {b bc : Byte} {c : CellIx} (hb : b.toNat = c.val) (hs : (s.cell c).state = .off)
    (hc : 32 ≤ bc.toNat) : setCellChannel [b, bc] s = .error { result := .badValue } := by
  simp only [setCellChannel, cellTarget_of_eq hb, ok_bind, State.checkFitted_eq, hs, dif_neg (Nat.not_lt.mpr hc)]
  rfl

/-- The last checks of Set Cell Channel: the channel is neither another cell's nor the present one (R31). -/
theorem setCellChannel_eq {b bc : Byte} {c : CellIx} {ch : Channel} (hb : b.toNat = c.val)
    (hs : (s.cell c).state = .off) (hc : bc.toNat = ch.val) : setCellChannel [b, bc] s =
      if s.channelTaken c ch = true then .error { result := .badValue }
      else if (s.cell c).channel = ch then .error { result := .noChange } else .ok (.channel c ch) := by
  have lt : bc.toNat < 32 := hc ▸ ch.isLt
  obtain rfl : ch = ⟨bc.toNat, lt⟩ := Fin.ext hc.symm
  simp only [setCellChannel, cellTarget_of_eq hb, ok_bind, State.checkFitted_eq, hs, dif_pos lt]
  cases s.channelTaken c ⟨bc.toNat, lt⟩ <;> rfl

@[simp] theorem State.taken_site (s : State) (h : FrameHead) : (s.taken h).site = s.site := by
  obtain ⟨l, key, tag, level⟩ := h
  cases l <;> rfl

@[simp] theorem State.taken_channelTaken (s : State) (h : FrameHead) (c : CellIx) (ch : Channel) :
    (s.taken h).channelTaken c ch = s.channelTaken c ch := by
  simp [State.channelTaken]

/-- Settles O21: each clause reads one branch of the checks of R92, R159 and R31. -/
theorem parameterCommandsDecided : Obligations.ParameterCommandsDecided := by
  refine ⟨?_, ?_, ?_⟩
  · intro s h b mode cwHi cwLo npre nfire spre sfire v vw n l tfix pre rise ht out within ok valueOk new
    have refused : ∀ {r x}, setZoneParameters
        [b, mode, cwHi, cwLo, npre, nfire, spre, sfire, v, vw, n, l, tfix, pre, rise] (s.taken h) =
          .error { result := r, value := x } → s.refuses h r x out :=
      fun e => State.writeCommand_refuses ht rfl e
    refine ⟨fun hb => refused (setZoneParameters_bad_target hb), fun z hb => ?_⟩
    have decided := setZoneParameters_eq (s := s.taken h) (mode := mode) (cwHi := cwHi) (cwLo := cwLo) (npre := npre)
      (nfire := nfire) (spre := spre) (sfire := sfire) (v := v) (vw := vw) (n := n) (l := l) (tfix := tfix)
      (pre := pre) (rise := rise) hb
    rw [zoneParamsOperand_eq, State.taken_zone] at decided
    have valid : valueOk ↔ mode.toNat ≤ 1 ∧ thresholdsOk npre.toNat nfire.toNat = true ∧
        thresholdsOk spre.toNat sfire.toNat = true ∧ clamp 0 100 n.toNat < clamp 20 120 l.toNat := by
      rw [thresholdsOk_iff, thresholdsOk_iff]
      exact .rfl
    rw [← if_congr valid rfl rfl] at decided
    refine ⟨fun bad => refused ?_, fun good same => refused ?_, fun good differ =>
      State.writeCommand_requests ht rfl ?_⟩
    · rw [decided, if_neg bad]
    · rw [decided, if_pos good]
      exact if_pos same
    · rw [decided, if_pos good]
      exact if_neg differ
  · intro s h miss age hi lo wf ww ws ht out within new
    have operand : siteParamsOperand miss age hi lo wf ww ws = new := siteParamsOperand_eq miss age hi lo wf ww ws
    have decided : setSiteParameters [miss, age, hi, lo, wf, ww, ws] (s.taken h) =
        if new = s.site then .error { result := .noChange } else .ok (.site new) := by
      simp only [setSiteParameters, operand, State.taken_site]
      rfl
    exact ⟨fun same => State.writeCommand_refuses ht rfl (by rw [decided, if_pos same]),
      fun differ => State.writeCommand_requests ht rfl (by rw [decided, if_neg differ])⟩
  · intro s h b bc ht out
    have refused : ∀ {r x}, setCellChannel [b, bc] (s.taken h) = .error { result := r, value := x } →
        s.refuses h r x out := fun e => State.writeCommand_refuses ht rfl e
    refine ⟨fun hb => refused (setCellChannel_bad_target hb), fun c hb => ⟨fun ha => ?_, fun ha ho => ?_, fun ho => ?_⟩⟩
    · have decided := setCellChannel_of_not_off (s := s.taken h) (bc := bc) hb (by simp [ha])
      rw [State.taken_cell, if_pos ha] at decided
      exact refused decided
    · have decided := setCellChannel_of_not_off (s := s.taken h) (bc := bc) hb (by simpa using ho)
      rw [State.taken_cell, if_neg ha] at decided
      exact refused decided
    · have off : ((s.taken h).cell c).state = .off := by rw [State.taken_cell, ho]
      refine ⟨fun hc => refused (setCellChannel_bad_channel hb off hc), fun ch hc => ?_⟩
      have decided := setCellChannel_eq hb off hc
      rw [State.taken_channelTaken, State.taken_cell] at decided
      refine ⟨fun taken => refused ?_, fun free => ?_⟩
      · rw [decided, if_pos (State.channelTaken_iff.mpr taken)]
      · have untaken : ¬s.channelTaken c ch = true := fun e => by
          obtain ⟨k, hk, hp, e⟩ := State.channelTaken_iff.mp e
          exact free k hk hp e
        rw [if_neg untaken] at decided
        exact ⟨fun same => refused (by rw [decided, if_pos same]),
          fun differ => State.writeCommand_requests ht rfl (by rw [decided, if_neg differ])⟩

end Sys2Proof.Machine

/-! ## The slot close of one entry (R48, R49, R57) -/

namespace Sys2Proof.Machine

variable {s t u : State} {d : Device}

/-- A counted slot close declares the entry Missing: unheard, and its miss count reaches the limit (R48). -/
abbrev Device.declared (d : Device) (limit : Nat) : Prop :=
  d.heard = false ∧ d.life ≠ .missing ∧ limit ≤ d.missCount + 1

/-- The record that a counted slot close leaves (R48, R57). -/
def Device.slotClosed (d : Device) (limit routeAge : Nat) : Device :=
  { d with
    heard := false
    missCount := if d.heard = true then 0 else if d.life = .missing then d.missCount else min (d.missCount + 1) limit
    life := if d.declared limit then .missing else d.life
    routes := d.routes.aged routeAge }

/-- A counted slot close before the routes are aged, of an entry that owns its slot (R48). -/
theorem closed_eq (i : DevIx) (limit routeAge : Nat) (lost : Bool) (ho : d.life.owns = true) :
    { (closed i limit lost d).d with routes := d.routes.aged routeAge } = d.slotClosed limit routeAge ∧
      (closed i limit lost d).d.routes = d.routes ∧
      (closed i limit lost d).events = if d.declared limit then [.deviceMissing i lost] else [] := by
  unfold closed Device.slotClosed
  by_cases heard : d.heard = true
  · simp [Device.declared, heard]
  · have hh : d.heard = false := eq_false_of_ne_true heard
    by_cases hm : d.life = .missing
    · simp [Device.declared, hh, hm]
    · have counted : d.life = .calibrating ∨ d.life = .supervised := by
        cases hl : d.life <;> simp_all [Life.owns]
      by_cases hn : limit ≤ d.missCount + 1
      · simp [Device.declared, hh, hm, counted, hn]
      · have below : d.missCount + 1 ≤ limit := by omega
        have unequal : d.missCount + 1 ≠ limit := by omega
        simp [Device.declared, hh, hm, counted, hn, below, unequal]

/-- The slot close of an entry that owns its slot (R48, R49, R57). -/
theorem State.slotClose_eq {i : DevIx} (ho : (s.dev i).life.owns = true) : s.slotClose i =
    (s.setDev i ((s.dev i).slotClosed s.site.missLimit s.site.routeAge)).createAll
      (if (s.dev i).declared s.site.missLimit then [.deviceMissing i (s.relayLost (s.dev i))] else []) := by
  obtain ⟨record, routes, events⟩ := closed_eq i s.site.missLimit s.site.routeAge (s.relayLost (s.dev i)) ho
  simp only [State.slotClose, routes, record, events]

/-- The relay-lost flag (R49): the entry has a route entry, and each names the relay number of a Missing Repeater. -/
theorem State.relayLost_iff : s.relayLost d = true ↔ d.routes.first.toList ++ d.routes.second.toList ≠ [] ∧
    ∀ r ∈ d.routes.first.toList ++ d.routes.second.toList, r.path ≠ 0 ∧
      ∃ k, (s.dev k).life = .missing ∧ (s.dev k).kind = .repeater ∧ (s.dev k).relay = r.path := by
  simp only [State.relayLost, RoutePair.entries, Bool.and_eq_true, Bool.not_eq_true', List.isEmpty_eq_false_iff,
    List.all_eq_true, bne_iff_ne, State.findDev_isSome, Device.isRelay, beq_iff_eq, and_assoc]

/-- The aging of a route entry at a counted slot close (R57). -/
theorem Route.aged_eq (limit : Nat) (x : Route) : x.aged limit =
    let age := if x.delivered then x.age else min 255 (x.age + 1)
    if x.pinned = false ∧ limit ≤ age then none else some { x with age := age, delivered := false } := by
  simp only [Route.aged, Bool.and_eq_true, Bool.not_eq_true', decide_eq_true_eq]

/-! ## The slot closes of an interval end, in cell-number order (R43) -/

/-- The cell after its slot is closed: an Expecting record of the slot becomes Missed (R43). -/
def Cell.slotClosed (r : Cell) (slot : Slot) : Cell :=
  if (r.state = .running ∨ r.state = .stopping) ∧ r.slots[slot] = .expecting then
    { r with slots := r.slots.set slot .missed }
  else r

/-- The event that the slot close of a cell creates (R48, R49). -/
def State.closeEvents (s : State) (slot : Slot) (c : CellIx) : List EventBody :=
  let i := slotIndex c slot
  if s.slotDeclares slot i then [.deviceMissing i (decide (s.relayLostAt slot i))] else []

/-- The record of an entry after the slot close of its home cell (R43, R48). -/
def State.closedRecord (s : State) (slot : Slot) (i : DevIx) : Device :=
  if s.slotCounted slot i then (s.dev i).slotClosed s.site.missLimit s.site.routeAge else s.dev i

/-- What the slot closes of the cells numbered below n leave. -/
structure State.slotsClosed (s : State) (slot : Slot) (n : Nat) (t : State) : Prop where
  links : s.keepsLinks t
  clocks : s.keepsClocks t
  time : t.time = s.time
  zones : t.zones = s.zones
  siteCount : t.siteCount = s.siteCount
  store : t.store = s.store
  cells : ∀ c, t.cell c = if c.val < n then (s.cell c).slotClosed slot else s.cell c
  devs : ∀ i, t.dev i = if (homeCell i).val < n then s.closedRecord slot i else s.dev i
  events : (s.createAll ((allCells.filter (·.val < n)).flatMap (s.closeEvents slot))).sameEvents t

theorem State.slotsClosed_zero (s : State) (slot : Slot) : s.slotsClosed slot 0 s where
  links := s.keepsLinks_refl
  clocks := s.keepsClocks_refl
  time := rfl
  zones := rfl
  siteCount := rfl
  store := rfl
  cells _ := rfl
  devs _ := rfl
  events := s.sameEvents_refl

@[simp] theorem homeCell_slotIndex (c : CellIx) (h : Slot) : homeCell (slotIndex c h) = c := by
  apply Fin.ext; simp only [homeCell, slotIndex]; omega

@[simp] theorem homeSlot_slotIndex (c : CellIx) (h : Slot) : homeSlot (slotIndex c h) = h := by
  apply Fin.ext; simp only [homeSlot, slotIndex]; omega

theorem slotIndex_home (i : DevIx) : slotIndex (homeCell i) (homeSlot i) = i := by
  apply Fin.ext; simp only [homeCell, homeSlot, slotIndex]; omega

theorem State.setCell_self (s : State) (c : CellIx) : s.setCell c (s.cell c) = s := by
  simp [State.setCell, State.cell]

/-- What the slot close of one cell does: its slot record, and its entry when the close is counted (R43). -/
theorem State.closeSlot_eq (s : State) (c : CellIx) (slot : Slot) : s.closeSlot c slot =
    if s.slotCounted slot (slotIndex c slot) then (s.setCell c ((s.cell c).slotClosed slot)).slotClose (slotIndex c slot)
    else s.setCell c ((s.cell c).slotClosed slot) := by
  by_cases ho : (s.cell c).state = .running ∨ (s.cell c).state = .stopping
  · have record : (if (s.cell c).slots[slot] = .expecting then s.setSlot c slot .missed else s) =
        s.setCell c ((s.cell c).slotClosed slot) := by
      by_cases he : (s.cell c).slots[slot] = .expecting
      · rw [if_pos he, Cell.slotClosed, if_pos ⟨ho, he⟩]; rfl
      · rw [if_neg he, Cell.slotClosed, if_neg fun h => he h.2, State.setCell_self]
    simp only [State.closeSlot, CellState.operating_iff.mpr ho, Bool.not_true, Bool.false_eq_true, if_false, record]
    refine if_congr ?_ rfl rfl
    simp [State.slotCounted, ho]
  · have closed : (s.cell c).slotClosed slot = s.cell c := if_neg fun h => ho h.1
    have uncounted : ¬s.slotCounted slot (slotIndex c slot) := by simp [State.slotCounted, ho]
    rw [if_neg uncounted, closed, State.setCell_self, State.closeSlot, if_pos (by simpa using mt CellState.operating_iff.mp ho)]

/-- The cells numbered below c + 1 are those below c, and c. -/
theorem allCells_filter_succ (c : CellIx) :
    allCells.filter (·.val < c.val + 1) = allCells.filter (·.val < c.val) ++ [c] := by
  revert c; decide

theorem State.slotCounted.index {slot : Slot} {i : DevIx} (h : s.slotCounted slot i) :
    i = slotIndex (homeCell i) slot := by
  obtain ⟨e, -⟩ := h
  rw [← e, slotIndex_home]

/-- The records of the Repeaters that a relay-lost flag looks at, while the cells below c have been closed (log 6). -/
theorem State.slotsClosed.relay {slot : Slot} {n : Nat} (h : s.slotsClosed slot n u) (k : DevIx) :
    (u.dev k).kind = (s.dev k).kind ∧ (u.dev k).relay = (s.dev k).relay ∧
      ((u.dev k).life = .missing ↔
        (s.dev k).life = .missing ∨ ((homeCell k).val < n ∧ s.slotDeclares slot k)) := by
  rw [h.devs k]
  by_cases hn : (homeCell k).val < n
  · rw [if_pos hn, State.closedRecord]
    by_cases hc : s.slotCounted slot k
    · rw [if_pos hc]
      refine ⟨rfl, rfl, ?_⟩
      by_cases hd : (s.dev k).declared s.site.missLimit
      · simp only [Device.slotClosed, if_pos hd, true_iff]
        exact .inr ⟨hn, hc, hd⟩
      · simp only [Device.slotClosed, if_neg hd]
        exact ⟨.inl, fun h => h.resolve_right fun ⟨_, _, h⟩ => hd h⟩
    · rw [if_neg hc]
      exact ⟨rfl, rfl, .inl, fun h => h.resolve_right fun ⟨_, h, _⟩ => hc h⟩
  · rw [if_neg hn]
    exact ⟨rfl, rfl, .inl, fun h => h.resolve_right fun ⟨h, _⟩ => hn h⟩

/-- The relay-lost flag that the slot close of a cell decides, after those of the cells below it (R49; logs 6, 40). -/
theorem State.slotsClosed.relayLost {slot : Slot} {i : DevIx} (h : s.slotsClosed slot (homeCell i).val u) :
    u.relayLost (s.dev i) = decide (s.relayLostAt slot i) := by
  rw [Bool.eq_iff_iff, State.relayLost_iff, decide_eq_true_iff]
  refine and_congr_right fun _ => forall₂_congr fun r _ => and_congr_right fun _ => exists_congr fun k => ?_
  obtain ⟨kind, relay, missing⟩ := h.relay k
  rw [kind, relay, missing, and_comm, and_assoc]
  rfl

/-- The slot close of cell c after those of the cells below it. -/
theorem State.slotsClosed.closeSlot {slot : Slot} {c : CellIx} (h : s.slotsClosed slot c.val u) :
    u.closeSlot c slot = ((u.setCell c ((s.cell c).slotClosed slot)).setDev (slotIndex c slot)
      (s.closedRecord slot (slotIndex c slot))).createAll (s.closeEvents slot c) := by
  have cell : u.cell c = s.cell c := by rw [h.cells, if_neg (lt_irrefl _)]
  have record : u.dev (slotIndex c slot) = s.dev (slotIndex c slot) := by
    rw [h.devs, homeCell_slotIndex, if_neg (lt_irrefl _)]
  have site : u.site = s.site := by
    obtain ⟨-, -, site, -⟩ := h.links
    exact site
  have lost : u.relayLost (s.dev (slotIndex c slot)) = decide (s.relayLostAt slot (slotIndex c slot)) :=
    State.slotsClosed.relayLost (by rwa [homeCell_slotIndex])
  have counted : u.slotCounted slot (slotIndex c slot) ↔ s.slotCounted slot (slotIndex c slot) := by
    simp only [State.slotCounted, homeCell_slotIndex, cell, record]
  rw [State.closeSlot_eq, cell]
  by_cases hc : s.slotCounted slot (slotIndex c slot)
  · have owns : ((u.setCell c ((s.cell c).slotClosed slot)).dev (slotIndex c slot)).life.owns = true := by
      obtain ⟨-, -, owns, -⟩ := hc
      rwa [State.setCell_dev, record]
    rw [if_pos (counted.mpr hc), State.slotClose_eq owns, State.setCell_dev, record, State.closedRecord, if_pos hc,
      State.closeEvents]
    simp only [State.setCell_site, site]
    refine congrArg _ ?_
    have flag : (u.setCell c ((s.cell c).slotClosed slot)).relayLost (s.dev (slotIndex c slot)) =
        u.relayLost (s.dev (slotIndex c slot)) := rfl
    rw [flag, lost]
    exact if_congr ⟨fun hd => ⟨hc, hd⟩, fun hd => hd.2⟩ rfl rfl
  · have silent : s.closeEvents slot c = [] := if_neg fun hd => hc hd.1
    have kept : (u.setCell c ((s.cell c).slotClosed slot)).setDev (slotIndex c slot) (s.dev (slotIndex c slot)) =
        u.setCell c ((s.cell c).slotClosed slot) := by
      rw [← record]
      exact State.setDev_self (u.setCell c ((s.cell c).slotClosed slot)) _
    rw [if_neg (mt counted.mp hc), State.closedRecord, if_neg hc, silent, State.createAll_nil, kept]

theorem State.slotsClosed.step {slot : Slot} {c : CellIx} (h : s.slotsClosed slot c.val u) :
    s.slotsClosed slot (c.val + 1) (u.closeSlot c slot) := by
  rw [h.closeSlot]
  let w := (u.setCell c ((s.cell c).slotClosed slot)).setDev (slotIndex c slot)
    (s.closedRecord slot (slotIndex c slot))
  have below : ∀ b : CellIx, b ≠ c → (b.val < c.val + 1 ↔ b.val < c.val) := fun b hb => by
    have : b.val ≠ c.val := fun e => hb (Fin.ext e)
    omega
  have links : u.keepsLinks w := ⟨rfl, rfl, rfl, rfl, rfl, rfl, rfl, rfl, rfl⟩
  obtain ⟨runClock, siteTime, -⟩ := h.clocks
  refine ⟨(h.links.trans links).trans (State.keepsLinks_createAll w _),
    h.clocks.trans (State.keepsClocks_createAll w _), (State.createAll_time w _).trans h.time,
    (State.createAll_zones w _).trans h.zones, (State.createAll_siteCount w _).trans h.siteCount,
    (State.createAll_store w _).trans h.store, fun b => ?_, fun i => ?_, ?_⟩
  · rw [State.createAll_cell, State.setDev_cell, State.cell_setCell, h.cells]
    by_cases hb : b = c
    · rw [if_pos hb, if_pos (by rw [hb]; exact Nat.lt_succ_self _), hb]
    · rw [if_neg hb]
      exact (if_congr (below b hb) rfl rfl).symm
  · rw [State.createAll_dev, State.dev_setDev, State.setCell_dev, h.devs]
    by_cases hi : i = slotIndex c slot
    · rw [if_pos hi, hi, homeCell_slotIndex, if_pos (Nat.lt_succ_self _)]
    · rw [if_neg hi]
      by_cases hb : homeCell i = c
      · have uncounted : ¬s.slotCounted slot i := fun hc => hi (hb ▸ hc.index)
        rw [hb, if_neg (lt_irrefl _), if_pos (Nat.lt_succ_self _), State.closedRecord, if_neg uncounted]
      · exact (if_congr (below _ hb) rfl rfl).symm
  · rw [allCells_filter_succ, List.flatMap_append, State.createAll_append, List.flatMap_singleton]
    exact State.sameEvents_createAll _ (h.events.trans ⟨rfl, rfl, rfl, rfl⟩) (by simp [siteTime])

/-- The slot closes of a report interval, in every cell (R43, R48, R57). -/
theorem State.slotsClosed_allCells (s : State) (slot : Slot) :
    s.slotsClosed slot 4 (allCells.foldl (fun (u : State) c => u.closeSlot c slot) s) :=
  (((s.slotsClosed_zero slot).step (c := 0)).step (c := 1)).step (c := 2) |>.step (c := 3)

end Sys2Proof.Machine

/-! ## The end of an interval (R23, R33, R43) -/

namespace Sys2Proof.Machine

variable {s t u : State}

/-- States that differ in their cells alone are equal when the cells are. -/
theorem State.withCells_ext {v w : Vector Cell 4} (h : ∀ c : CellIx, v[c] = w[c]) :
    ({ s with cells := v } : State) = { s with cells := w } := by
  have : v = w := Vector.ext fun i hi => h ⟨i, hi⟩
  rw [this]

/-- Each cell of a list changed in turn by a function of its record, which looks at no other cell. -/
theorem State.foldl_setCell {g : State → CellIx → Cell → Cell} (hg : ∀ (u : State) b r, g (u.setCell b r) = g u)
    (l : List CellIx) (hl : l.Nodup) (s : State) :
    l.foldl (fun (u : State) c => u.setCell c (g u c (u.cell c))) s =
      { s with cells := Vector.ofFn fun c => if c ∈ l then g s c (s.cell c) else s.cell c } := by
  induction l generalizing s with
  | nil =>
    refine State.withCells_ext (s := s) (v := s.cells) fun c => ?_
    rw [vector_getElem_ofFn, if_neg List.not_mem_nil]
    rfl
  | cons a l ih =>
    obtain ⟨ha, hl⟩ := List.nodup_cons.mp hl
    rw [List.foldl_cons, ih hl, hg]
    refine State.withCells_ext fun c => ?_
    rw [vector_getElem_ofFn, vector_getElem_ofFn, State.cell_setCell]
    by_cases hc : c = a
    · rw [hc, if_pos rfl, if_neg ha, if_pos List.mem_cons_self]
    · rw [if_neg hc]
      exact if_congr (by simp [hc]) rfl rfl

theorem mem_allCells (c : CellIx) : c ∈ allCells := List.mem_finRange c

/-- Every cell changed by a function of its record, which looks at no other cell. -/
theorem State.foldl_setCell_all {g : State → CellIx → Cell → Cell} (hg : ∀ (u : State) b r, g (u.setCell b r) = g u)
    (s : State) : allCells.foldl (fun (u : State) c => u.setCell c (g u c (u.cell c))) s =
      { s with cells := Vector.ofFn fun c => g s c (s.cell c) } := by
  rw [State.foldl_setCell hg allCells (List.nodup_finRange 4)]
  refine State.withCells_ext fun c => ?_
  rw [vector_getElem_ofFn, vector_getElem_ofFn, if_pos (mem_allCells c)]

/-- The slot closes that the end of an interval makes: those of its report slot, if it has one (R43). -/
def State.slotsEnded (s : State) : State :=
  match s.time.slot with
  | some h => allCells.foldl (fun (u : State) c => u.closeSlot c h) s
  | none => s

/-- The interval work of every cell emptied (R33). -/
def State.emptied (s : State) : State := { s with cells := Vector.ofFn fun c => (s.cell c).newInterval }

/-- The end of an interval: the slot closes, the interval work, and the clocks (R23, R33, R43). -/
theorem State.endInterval_eq (s : State) : s.endInterval = s.slotsEnded.emptied.nextQuarter :=
  congrArg State.nextQuarter (State.foldl_setCell_all (g := fun _ _ => Cell.newInterval) (fun _ _ _ => rfl) s.slotsEnded)

theorem State.exec_intervalEnd (hp : s.phase = .running) :
    exec .intervalEnd s = .next s.slotsEnded.emptied.nextQuarter := by
  change Host.Outcome.next (s.whenRunning State.endInterval) = _
  rw [State.whenRunning, if_pos hp, State.endInterval_eq]

theorem State.nextQuarter_emptied_cell (s : State) (c : CellIx) :
    s.emptied.nextQuarter.cell c = (s.cell c).newInterval := vector_getElem_ofFn _ c

/-- What the slot closes change outside the records, the slot records and the events: nothing. -/
structure State.slotsOnly (s t : State) : Prop where
  links : s.keepsLinks t
  clocks : s.keepsClocks t
  time : t.time = s.time
  zones : t.zones = s.zones
  siteCount : t.siteCount = s.siteCount
  store : t.store = s.store
  cells : ∀ c, t.cell c = { s.cell c with slots := (t.cell c).slots }

theorem State.slotsOnly_slotsEnded (s : State) : s.slotsOnly s.slotsEnded := by
  unfold State.slotsEnded
  split
  · next slot _ =>
    have closed := s.slotsClosed_allCells slot
    refine ⟨closed.links, closed.clocks, closed.time, closed.zones, closed.siteCount, closed.store, fun c => ?_⟩
    rw [closed.cells c, if_pos c.isLt, Cell.slotClosed]
    split
    · rfl
    · rfl
  · exact ⟨s.keepsLinks_refl, s.keepsClocks_refl, rfl, rfl, rfl, rfl, fun _ => rfl⟩

/-- The uses of the twelve intervals of a superframe (R24). -/
theorem intervalUse_cases (k : Fin 12) : (k.val = 0 ∧ intervalUse k = .beacon) ∨
    ((1 ≤ k.val ∧ k.val ≤ 6) ∧ ∃ r, intervalUse k = .report r) ∨ (k.val = 7 ∧ intervalUse k = .enrolment) ∨
    (8 ≤ k.val ∧ intervalUse k = .alarm) := by
  revert k; decide

/-- Outside the report intervals no slot is closed (R24, R43). -/
theorem State.slotsEnded_of_no_slot (h : s.time.interval = 0 ∨ 7 ≤ s.time.interval.val) : s.slotsEnded = s := by
  have quiet : s.time.interval.val = 0 ∨ 7 ≤ s.time.interval.val := h.imp_left (congrArg Fin.val)
  have none : s.time.slot = none := by
    unfold Timebase.slot
    rcases intervalUse_cases s.time.interval with ⟨-, e⟩ | ⟨hk, -⟩ | ⟨-, e⟩ | ⟨-, e⟩
    · rw [e]
    · omega
    · rw [e]
    · rw [e]
  rw [State.slotsEnded, none]

/-- The timebase one interval on, with the carries of R23. -/
theorem Timebase.next_eq (t : Timebase) : t.next =
    { tick := 0
      interval := t.interval + 1
      phase := if t.interval = 11 then t.phase + 1 else t.phase
      cycle := if t.interval = 11 ∧ t.phase = 7 then t.cycle + 1 else t.cycle
      superframeDue := if t.interval = 11 then true else t.superframeDue
      cycleDue := if t.interval = 11 ∧ t.phase = 7 then true else t.cycleDue } := by
  unfold Timebase.next
  by_cases hi : t.interval = 11
  · by_cases hp : t.phase = 7
    · simp [hi, hp]
    · simp [hi, hp]
  · simp [hi]

theorem Store.idle_iff {x : Store} : x.idle = true ↔ x.jobs = [] := by
  simp [Store.idle, Store.jobs]

/-- Settles O36: the clocks and marks by the carries of R23, beside slot closes that change none of them. -/
theorem intervalEndAdvancesClocks : Obligations.IntervalEndAdvancesClocks := by
  refine ⟨fun s hp => ?_, fun s hp => ?_⟩
  · have ended := s.slotsOnly_slotsEnded
    obtain ⟨runClock, siteTime, -⟩ := ended.clocks
    obtain ⟨-, -, site, -⟩ := ended.links
    refine ⟨_, State.exec_intervalEnd hp, ended.links.trans ⟨rfl, rfl, rfl, rfl, rfl, rfl, rfl, rfl, rfl⟩,
      congrArg (· + 1) runClock, congrArg (· + 1) siteTime, ?_⟩
    have time : s.slotsEnded.emptied.nextQuarter.time = s.time.next := congrArg Timebase.next ended.time
    rw [time, Timebase.next_eq]
    refine ⟨rfl, rfl, rfl, rfl, rfl, rfl, fun c => ?_, ended.zones, ended.siteCount, site, ended.store,
      fun quiet => ?_⟩
    · rw [State.nextQuarter_emptied_cell, ended.cells c]
      rfl
    · rw [State.slotsEnded_of_no_slot quiet]
      refine ⟨rfl, ⟨rfl, rfl, rfl, rfl⟩, fun c => ?_⟩
      rw [State.nextQuarter_emptied_cell]
      rfl
  · have ended := s.slotsOnly_slotsEnded
    obtain ⟨-, -, restart⟩ := ended.clocks
    refine ⟨_, State.exec_intervalEnd hp, ?_⟩
    change (if s.slotsEnded.restart = .pending ∧ s.slotsEnded.time.interval = 11 ∧ s.slotsEnded.store.idle then
      Restart.due else s.slotsEnded.restart) = _
    rw [restart, ended.time, ended.store]
    exact if_congr (and_congr_right' (and_congr_right' Store.idle_iff)) rfl rfl

/-- Settles O37: the slot closes cell by cell, and one counted slot close on its own. -/
theorem slotCloseCountsMisses : Obligations.SlotCloseCountsMisses := by
  refine ⟨fun s slot hp hslot => ?_, ?_⟩
  · have closed : s.slotsClosed slot 4 s.slotsEnded := by
      rw [State.slotsEnded, hslot]
      exact s.slotsClosed_allCells slot
    refine ⟨_, State.exec_intervalEnd hp, fun i => ?_, fun c => ?_, closed.events.trans ⟨rfl, rfl, rfl, rfl⟩⟩
    · intro d limit aged
      have record := closed.devs i
      rw [if_pos (homeCell i).isLt, State.closedRecord] at record
      refine record.trans ?_
      by_cases hc : s.slotCounted slot i
      · have ages : ∀ x : Route, x.aged s.site.routeAge = aged x := Route.aged_eq _
        have life : (if s.slotDeclares slot i then Life.missing else d.life) =
            if d.declared limit then .missing else d.life := if_congr ⟨And.right, And.intro hc⟩ rfl rfl
        rw [if_pos hc, if_pos hc, life, Device.slotClosed, RoutePair.aged]
        simp only [ages]
        rfl
      · rw [if_neg hc, if_neg hc]
    · rw [State.nextQuarter_emptied_cell, closed.cells c, if_pos c.isLt]
      change ((s.cell c).slotClosed slot).slots = _
      rw [Cell.slotClosed]
      split
      · rfl
      · rfl
  · intro s i flag d routes hh hl hlimit hflag
    have owns : d.life.owns = true := by rcases hl with e | e <;> rw [e] <;> rfl
    have present : d.life ≠ .missing := by rcases hl with e | e <;> rw [e] <;> nofun
    have declared : d.declared s.site.missLimit := ⟨hh, present, hlimit⟩
    have lost : s.relayLost d = flag := Bool.eq_iff_iff.mpr (State.relayLost_iff.trans hflag.symm)
    have record : d.slotClosed s.site.missLimit s.site.routeAge =
        { d with missCount := s.site.missLimit, life := .missing, routes := d.routes.aged s.site.routeAge } := by
      rw [Device.slotClosed, if_pos declared, if_neg present, Nat.min_eq_right hlimit, ← hh]
      simp [hh]
    rw [State.slotClose_eq owns, if_pos declared, lost]
    exact congrArg (fun e => (s.setDev i e).create _) record

end Sys2Proof.Machine

/-! ## Copies sorted and tested (R28, R33 to R37) -/

namespace Sys2Proof.Machine

variable {s t u : State}

/-- Test 2 of R34: the interval that a frame of each kind belongs to. -/
theorem Uplink.fits_iff {v : Uplink} {k : Fin 12} : v.fits k = true ↔
    match v with
    | .report _ => 1 ≤ k.val ∧ k.val ≤ 6
    | .alarm _ => 8 ≤ k.val
    | .enrol _ _ _ => k.val = 7 := by
  rcases intervalUse_cases k with ⟨hk, e⟩ | ⟨hk, r, e⟩ | ⟨hk, e⟩ | ⟨hk, e⟩ <;> cases v <;>
    simp only [Uplink.fits, e, Bool.false_eq_true, true_iff, false_iff] <;> omega

/-- Test 3 of R34: the receive window of a path, both ends included. -/
theorem inWindow_iff {p : Path} {a : Fin 8192} : inWindow p a = true ↔
    if p = 0 then 175 ≤ a.val ∧ a.val ≤ 1135 else 2797 ≤ a.val ∧ a.val ≤ 3757 := by
  unfold inWindow
  split
  · simp
  · simp

/-- Test 4 of R34: a direct path, or the relay number of a Repeater that owns its slot. -/
theorem State.relayKnown_iff {p : Path} : s.relayKnown p = true ↔
    p = 0 ∨ ∃ i, (s.dev i).life.owns = true ∧ (s.dev i).kind = .repeater ∧ (s.dev i).relay = p := by
  simp only [State.relayKnown, Bool.or_eq_true, beq_iff_eq, State.findDev_isSome, Device.isRelay, Bool.and_eq_true,
    and_assoc]

/-- Test 6 of R34: the frame of the identity in the interval has another sequence number (R36). -/
theorem State.conflicts_iff {f : Sample} : s.conflicts f = true ↔
    ∃ g, (allCells.flatMap fun b => (s.cell b).frames).find? (fun g => g.identity = f.identity) = some g ∧
      g.seq ≠ f.seq := by
  simp only [State.conflicts, State.frameOf, Option.any_eq_true, decide_eq_true_eq]

/-- The statistics after a copy of an outcome (R34, R44). -/
def CopyOutcome.counted : CopyOutcome → CellStats → CellStats
  | .windowFailure, x => { x with window := min 65535 (x.window + 1) }
  | .foreignIdentity, x => { x with foreignId := min 65535 (x.foreignId + 1) }
  | .accepted, x => x
  | .discarded, x => x

theorem State.countOutcome_eq (s : State) (c : CellIx) (o : CopyOutcome) : s.countOutcome c o =
    s.setCell c { s.cell c with stats := o.counted (s.cell c).stats } := by
  cases o
  · exact (s.setCell_self c).symm
  · rfl
  · rfl
  · exact (s.setCell_self c).symm

/-- A copy that is not accepted is counted once and goes onto the work list (R33, R34). -/
theorem State.examine_failed {c : CellIx} {v : Uplink} {x : Copy} {o : CopyOutcome}
    (h : s.copyOutcome c v x.arrival = o) (ho : o ≠ .accepted) : s.examine c v x = s.setCell c { s.cell c with
      stats := o.counted (s.cell c).stats
      work := (s.cell c).work ++ [{ path := v.path, identity := v.identity, outcome := o }] } := by
  simp only [State.examine, h, if_neg ho, State.countOutcome_eq, State.modCell_eq, State.cell_setCell_self,
    State.setCell_setCell]

/-- The part of an operating cell in a received copy: late, unreadable, one too many, or examined (R28, R33). -/
theorem State.receiveCopy_eq {c : CellIx} {x : Copy} (ho : (s.cell c).state = .running ∨ (s.cell c).state = .stopping)
    (hd : (s.cell c).deaf = false) : s.receiveCopy c x =
      if 3758 ≤ x.taken.val ∨ 3758 ≤ s.time.tick.val ∨ s.time.interval = 0 then (s.atTick x.taken).countWindow c
      else
        match (if x.good then Uplink.parse x.bytes else none) with
        | none => (s.atTick x.taken).countIntegrity c
        | some v =>
          if 3 ≤ (s.cell c).work.length ∨ ∃ w ∈ (s.cell c).work, w.path = v.path then s.atTick x.taken
          else (s.atTick x.taken).examine c v x := by
  have late : (assemblyTick ≤ (s.atTick x.taken).time.tick ∨ (s.atTick x.taken).time.interval = 0) ↔
      (3758 ≤ x.taken.val ∨ 3758 ≤ s.time.tick.val ∨ s.time.interval = 0) := by
    change (assemblyTick ≤ max s.time.tick x.taken ∨ s.time.interval = 0) ↔ _
    rw [le_max_iff, or_comm (a := assemblyTick ≤ s.time.tick), or_assoc]
    exact .rfl
  simp only [State.receiveCopy, State.atTick_cell, CellState.operating_iff.mpr ho, hd, Bool.not_true, Bool.false_or,
    Bool.false_eq_true, if_false]
  refine (if_congr late rfl rfl).trans ?_
  split
  · rfl
  · cases if x.good then Uplink.parse x.bytes else none with
    | none => rfl
    | some v => exact if_congr (or_congr_right (by simp)) rfl rfl

theorem State.exec_receivedCopy (hp : s.phase = .running) (c : CellIx) (x : Copy) :
    exec (.receivedCopy c x) s = .next (s.receiveCopy c x) := by
  change Host.Outcome.next (s.whenRunning fun s => s.receiveCopy c x) = _
  rw [State.whenRunning, if_pos hp]

/-- The moving of the tick does not touch what the tests of R34 read. -/
theorem State.atTick_copyOutcome (s : State) (k : Fin 8192) (c : CellIx) (v : Uplink) (a : Fin 8192) :
    (s.atTick k).copyOutcome c v a = s.copyOutcome c v a := rfl

/-- Settles O29: the sorting of R33, and then the branches of the tests of R34 in their order. -/
theorem copiesTestedInOrder : Obligations.CopiesTestedInOrder := by
  refine ⟨?_, ?_⟩
  · intro s c x hp u r operating out count late
    have runs : out = .next (s.receiveCopy c x) := State.exec_receivedCopy hp c x
    refine ⟨fun deaf => ?_, fun ho hd => ⟨fun hl => ?_, fun hl => ⟨fun bad => ?_, fun f hg hf full => ?_⟩⟩⟩
    · have closed : (!(s.cell c).state.operating || (s.cell c).deaf) = true := by
        rw [Bool.or_eq_true, Bool.not_eq_true', ← Bool.not_eq_true, CellState.operating_iff]
        exact deaf
      rw [runs, State.receiveCopy]
      exact congrArg _ (if_pos closed)
    · refine runs.trans ?_
      rw [State.receiveCopy_eq ho hd, if_pos hl]
      rfl
    · have unread : (if x.good then Uplink.parse x.bytes else none) = none := by
        rcases bad with bad | bad <;> simp [bad]
      refine runs.trans ?_
      rw [State.receiveCopy_eq ho hd, if_neg hl, unread]
      rfl
    · refine runs.trans ?_
      rw [State.receiveCopy_eq ho hd, if_neg hl, if_pos hg, hf]
      exact congrArg _ (if_pos full)
  · intro s c x frame hp r ho hd hx ht hi hg hv hw hn u k fits window relay counted windowFailure foreign
    have failed : ∀ {o g}, s.copyOutcome c frame x.arrival = o → o ≠ .accepted → g = o.counted → counted o g := by
      rintro o g h hne rfl
      refine (State.exec_receivedCopy_examine hp ho hd hx ht hi hg hv hw hn).trans ?_
      rw [State.examine_failed ((State.atTick_copyOutcome ..).trans h) hne]
      rfl
    have fitsIff : frame.fits s.time.interval = true ↔ fits := Uplink.fits_iff
    have windowIff : inWindow frame.path x.arrival = true ↔ window := inWindow_iff
    have relayIff : s.relayKnown frame.path = true ↔ relay := State.relayKnown_iff
    refine ⟨fun hf => ?_, fun hf hw => ?_, fun hf hw hr => ?_, fun hf hw hr => ⟨?_, ?_⟩⟩
    · exact failed (o := .windowFailure) (by simp [State.copyOutcome, mt fitsIff.mp hf]) nofun rfl
    · exact failed (o := .windowFailure) (by simp [State.copyOutcome, fitsIff.mpr hf, mt windowIff.mp hw]) nofun rfl
    · exact failed (o := .foreignIdentity)
        (by simp [State.copyOutcome, fitsIff.mpr hf, windowIff.mpr hw, mt relayIff.mp hr]) nofun rfl
    · rintro f hframe conflict
      have tested : s.copyOutcome c frame x.arrival = if (s.matchCopy c frame).isNone then .foreignIdentity
          else if s.conflicts f then .foreignIdentity else .accepted := by
        simp only [State.copyOutcome, fitsIff.mpr hf, windowIff.mpr hw, relayIff.mpr hr]
        rcases hframe with rfl | rfl <;> rfl
      refine ⟨fun none => failed (o := .foreignIdentity) ?_ nofun rfl, fun some conflicting =>
        failed (o := .foreignIdentity) ?_ nofun rfl⟩
      · rw [tested, none]
        rfl
      · rw [tested, if_neg (by simpa using some), if_pos (State.conflicts_iff.mpr conflicting)]
    · rintro identity kind p rfl ⟨w, hwork, hid, hacc⟩
      refine failed (o := .discarded) ?_ nofun rfl
      have seen : (s.cell c).enrolSeen identity = true := by
        simp only [Cell.enrolSeen, List.any_eq_true, decide_eq_true_eq]
        exact ⟨w, hwork, hid, hacc⟩
      simp [State.copyOutcome, fitsIff.mpr hf, windowIff.mpr hw, relayIff.mpr hr, seen]

end Sys2Proof.Machine

/-! ## The Unsupervised cause over a list of entries (R52, R53) -/

namespace Sys2Proof.Machine

variable {s t u : State} {d : Device}

/-- A record brought into line with its home cell when it owns its slot (R52, R53). -/
def Device.alignedTo (d : Device) (home : Cell) : Device := if d.life.owns = true then d.heldBy home else d

/-- The event of that change. -/
def Device.alignEvents (d : Device) (i : DevIx) (home : Cell) : List EventBody :=
  if d.life.owns = true then unsupervisedChange d i home else []

theorem State.alignUnsupervised_step (s : State) (i : DevIx) : s.alignUnsupervised i =
    (s.setDev i ((s.dev i).alignedTo (s.cell (homeCell i)))).createAll
      ((s.dev i).alignEvents i (s.cell (homeCell i))) := by
  by_cases ho : (s.dev i).life.owns = true
  · rw [Device.alignedTo, Device.alignEvents, if_pos ho, if_pos ho, State.alignUnsupervised_eq ho]
  · rw [Device.alignedTo, Device.alignEvents, if_neg ho, if_neg ho]
    simp only [State.alignUnsupervised, ho, Bool.not_false, if_true]

/-- An entry of an operating cell loses Unsupervised, with DeviceRestored (R52). -/
theorem Device.alignEvents_of_running {home : Cell} (hs : home.state = .running) (d : Device) (i : DevIx) :
    d.alignEvents i home = if d.life.owns = true ∧ d.faults.unsupervised = true then
      [.deviceRestored i (.cause .unsupervised)] else [] := by
  have change : unsupervisedChange d i home =
      if d.faults.unsupervised = true then [.deviceRestored i (.cause .unsupervised)] else [] := if_pos (.inl hs)
  rw [Device.alignEvents, change]
  by_cases ho : d.life.owns = true
  · simp only [ho, true_and, if_true]
  · simp only [ho, false_and, if_false, Bool.false_eq_true]

theorem Device.alignedTo_same (d : Device) (home : Cell) : d.sameButUnsupervised (d.alignedTo home) := by
  unfold Device.alignedTo
  split
  · rfl
  · rfl

/-- What bringing the entries of a list into line with their home cells leaves. -/
structure State.realigned (s : State) (l : List DevIx) (t : State) : Prop where
  links : s.keepsLinks t
  clocks : s.keepsClocks t
  time : t.time = s.time
  zones : t.zones = s.zones
  siteCount : t.siteCount = s.siteCount
  store : t.store = s.store
  cells : t.cells = s.cells
  devs : ∀ i, t.dev i = if i ∈ l then (s.dev i).alignedTo (s.cell (homeCell i)) else s.dev i
  events : (s.createAll (l.flatMap fun i => (s.dev i).alignEvents i (s.cell (homeCell i)))).sameEvents t

theorem State.realigned_foldl (l : List DevIx) (hl : l.Nodup) (s : State) :
    s.realigned l (l.foldl State.alignUnsupervised s) := by
  induction l generalizing s with
  | nil => exact ⟨s.keepsLinks_refl, s.keepsClocks_refl, rfl, rfl, rfl, rfl, rfl, fun _ => rfl, s.sameEvents_refl⟩
  | cons a l ih =>
    obtain ⟨ha, hl⟩ := List.nodup_cons.mp hl
    let w := s.setDev a ((s.dev a).alignedTo (s.cell (homeCell a)))
    let v := w.createAll ((s.dev a).alignEvents a (s.cell (homeCell a)))
    have first : s.alignUnsupervised a = v := s.alignUnsupervised_step a
    have links : s.keepsLinks w := ⟨rfl, rfl, rfl, rfl, rfl, rfl, rfl, rfl, rfl⟩
    have clocks : s.keepsClocks w := ⟨rfl, rfl, rfl⟩
    have cell : ∀ c, v.cell c = s.cell c := fun c => State.createAll_cell w _ c
    have dev : ∀ i, i ≠ a → v.dev i = s.dev i := fun i hi =>
      (State.createAll_dev w _ i).trans (s.dev_setDev_ne _ hi)
    have rest := ih hl v
    have told : (l.flatMap fun i => (v.dev i).alignEvents i (v.cell (homeCell i))) =
        l.flatMap fun i => (s.dev i).alignEvents i (s.cell (homeCell i)) :=
      List.flatMap_congr fun i hi => by rw [dev i (ne_of_mem_of_not_mem hi ha), cell]
    rw [List.foldl_cons, first]
    refine ⟨(links.trans (State.keepsLinks_createAll w _)).trans rest.links,
      (clocks.trans (State.keepsClocks_createAll w _)).trans rest.clocks,
      rest.time.trans (State.createAll_time w _), rest.zones.trans (State.createAll_zones w _),
      rest.siteCount.trans (State.createAll_siteCount w _), rest.store.trans (State.createAll_store w _),
      rest.cells.trans (State.createAll_cells w _), fun i => ?_, ?_⟩
    · rw [rest.devs, cell]
      by_cases hi : i = a
      · rw [hi, if_neg ha, if_pos List.mem_cons_self]
        exact (State.createAll_dev w _ a).trans (s.dev_setDev_self a _)
      · rw [dev i hi]
        exact if_congr (by simp [hi]) rfl rfl
    · have begun : (s.createAll ((s.dev a).alignEvents a (s.cell (homeCell a)))).sameEvents v :=
        State.sameEvents_createAll _ ⟨rfl, rfl, rfl, rfl⟩ rfl
      rw [List.flatMap_cons, State.createAll_append, ← told]
      exact (State.sameEvents_createAll _ begun (by simp [v, w])).trans rest.events

/-- A cell-state change handed to supervision (R52). -/
theorem State.realigned_cell (s : State) (c : CellIx) :
    s.realigned (allDevs.filter fun i => homeCell i = c) (s.cellStateChanged c) :=
  State.realigned_foldl _ ((List.nodup_finRange 192).filter _) s

theorem mem_homedIn {c : CellIx} {i : DevIx} : i ∈ allDevs.filter (fun i => homeCell i = c) ↔ homeCell i = c := by
  simp [mem_allDevs]

/-- What a list gives after a filter is what it gives where the filter holds. -/
theorem flatMap_filter_eq {α β : Type} (p : α → Bool) (f : α → List β) (l : List α) :
    (l.filter p).flatMap f = l.flatMap fun a => if p a then f a else [] := by
  induction l with
  | nil => rfl
  | cons a l ih =>
    rw [List.flatMap_cons, ← ih, List.filter_cons]
    split
    · rw [List.flatMap_cons]
    · rfl

/-! ## Beacon confirms (R28, R45) -/

theorem State.confirmsBeacon_iff {c : CellIx} {x : TxName} : s.confirmsBeacon c x = true ↔
    x.interval = 0 ∧ x.tick = 655 ∧ x.phase = s.time.phase ∧ x.cycle = s.time.cycle ∧
      (s.cell c).beaconRequested = true ∧ s.time.superframeDue = false := by
  simp only [State.confirmsBeacon, Bool.and_eq_true, beq_iff_eq, Bool.not_eq_true', and_assoc]
  exact .rfl

theorem State.exec_transmitConfirm (hp : s.phase = .running) (c : CellIx) (x : TxName) :
    exec (.transmitConfirm c x) s = .next (s.confirm c x) := by
  change Host.Outcome.next (s.whenRunning fun s => s.confirm c x) = _
  rw [State.whenRunning, if_pos hp]

/-- The cell that returns to Running by the confirm of its beacon (R28). -/
def Cell.returned (r : Cell) : Cell :=
  { r with state := .running, unconfirmed := 0, beaconConfirmed := true, deaf := true }

/-- A Failed cell whose beacon is confirmed: its record, its entries supervised again, and their events (R28, R52). -/
theorem State.confirm_failed (s : State) (c : CellIx) (t : State)
    (ht : t = (s.setCell c (s.cell c).returned).cellStateChanged c) :
    s.keepsLinks t ∧ s.keepsClocks t ∧ t.time = s.time ∧ t.zones = s.zones ∧ t.siteCount = s.siteCount ∧
      t.store = s.store ∧ t.cell c = (s.cell c).returned ∧ (∀ b, b ≠ c → t.cell b = s.cell b) ∧
      (s.createAll (allDevs.flatMap fun i =>
        if homeCell i = c ∧ (s.dev i).life.owns = true ∧ (s.dev i).faults.unsupervised = true then
          [.deviceRestored i (.cause .unsupervised)] else [])).sameEvents t ∧
      ∀ i, t.dev i = if homeCell i = c ∧ (s.dev i).life.owns = true then
        { s.dev i with faults := { (s.dev i).faults with unsupervised := false } } else s.dev i := by
  subst ht
  let w := s.setCell c (s.cell c).returned
  have aligned := w.realigned_cell c
  have home : ∀ i, homeCell i = c → w.cell (homeCell i) = (s.cell c).returned := by
    intro i hi
    rw [hi]
    exact s.cell_setCell_self c _
  have links : s.keepsLinks w := ⟨rfl, rfl, rfl, rfl, rfl, rfl, rfl, rfl, rfl⟩
  have cell : ∀ b, (w.cellStateChanged c).cell b = w.cell b := fun b => by rw [State.cell, aligned.cells]; rfl
  refine ⟨links.trans aligned.links, State.keepsClocks.trans ⟨rfl, rfl, rfl⟩ aligned.clocks, aligned.time,
    aligned.zones, aligned.siteCount, aligned.store, (cell c).trans (s.cell_setCell_self c _), fun b hb => ?_, ?_,
    fun i => ?_⟩
  · rw [cell, State.cell_setCell, if_neg hb]
  · have told : (allDevs.flatMap fun i =>
        if homeCell i = c ∧ (s.dev i).life.owns = true ∧ (s.dev i).faults.unsupervised = true then
          [EventBody.deviceRestored i (.cause .unsupervised)] else []) =
        (allDevs.filter fun i => homeCell i = c).flatMap fun i =>
          (w.dev i).alignEvents i (w.cell (homeCell i)) := by
      rw [flatMap_filter_eq]
      refine List.flatMap_congr fun i _ => ?_
      by_cases hi : homeCell i = c
      · rw [if_pos (decide_eq_true hi), home i hi, Device.alignEvents_of_running rfl]
        exact if_congr (and_iff_right hi) rfl rfl
      · rw [if_neg fun h => hi h.1, if_neg (by simpa using hi)]
    rw [told]
    exact (State.sameEvents_createAll (s := s) (t := w) _ ⟨rfl, rfl, rfl, rfl⟩ rfl).trans aligned.events
  · rw [aligned.devs]
    by_cases hi : homeCell i = c
    · rw [if_pos (mem_homedIn.mpr hi), home i hi]
      simp only [hi, true_and]
      rfl
    · rw [if_neg (mt mem_homedIn.mp hi), if_neg fun h => hi h.1]
      rfl

end Sys2Proof.Machine

/-! ## The end of a superframe, cell by cell (R28, R32) -/

namespace Sys2Proof.Machine

variable {s t u : State} {d : Device} {r : Cell}

/-- The cell after the end of a superframe (R28, R32). -/
def Cell.ended (r : Cell) : Cell :=
  match r.state with
  | .running =>
    if r.beaconConfirmed then { r with unconfirmed := 0 }
    else if r.unconfirmed + 1 < 2 then { r with unconfirmed := r.unconfirmed + 1 }
    else { r with state := .failed, unconfirmed := 2 }
  | .stopping => { r with state := .off, unconfirmed := 0 }
  | .off => if r.startPending then { r with state := .running, startPending := false, unconfirmed := 0 } else r
  | .failed => r
  | .absent => r

/-- The end of a superframe for a cell: its record, and supervision when its state changes (R28, R32, R52). -/
theorem State.endSuperframe_eq (s : State) (c : CellIx) : s.endSuperframe c =
    if (s.cell c).ended.state = (s.cell c).state then s.setCell c (s.cell c).ended
    else (s.setCell c (s.cell c).ended).cellStateChanged c := by
  unfold State.endSuperframe Cell.ended
  cases hs : (s.cell c).state with
  | running =>
    by_cases hb : (s.cell c).beaconConfirmed = true
    · simp [hs, hb]
    · by_cases hn : (s.cell c).unconfirmed = 0
      · simp [hs, hb, hn]
      · simp [hs, hb, hn]
  | stopping => simp [hs]
  | off =>
    by_cases hb : (s.cell c).startPending = true
    · simp [hs, hb]
    · simp [hs, hb, State.setCell_self]
  | failed => simp [hs, State.setCell_self]
  | absent => simp [hs, State.setCell_self]

/-- No cell is Stopping after the end of a superframe (R32). -/
theorem Cell.ended_not_stopping (r : Cell) : r.ended.state ≠ .stopping := by
  unfold Cell.ended
  cases hs : r.state with
  | running => dsimp only; split <;> [skip; split] <;> simp
  | stopping => simp
  | off => dsimp only; split <;> simp [hs]
  | failed => simp [hs]
  | absent => simp [hs]

/-- The record of an entry after the end of a superframe of its home cell (R52). -/
def Device.followed (d : Device) (r : Cell) : Device := if r.ended.state = r.state then d else d.alignedTo r.ended

/-- The events of the end of a superframe of a cell (R52). -/
def State.endEvents (s : State) (c : CellIx) : List EventBody :=
  if (s.cell c).ended.state = (s.cell c).state then []
  else (allDevs.filter fun i => homeCell i = c).flatMap fun i => (s.dev i).alignEvents i (s.cell c).ended

/-- What the end of a superframe leaves once the cells numbered below n have been handled (log 6). -/
structure State.superframeEnded (s : State) (n : Nat) (t : State) : Prop where
  links : s.keepsLinks t
  clocks : s.keepsClocks t
  time : t.time = s.time
  zones : t.zones = s.zones
  siteCount : t.siteCount = s.siteCount
  store : t.store = s.store
  cells : ∀ c, t.cell c = if c.val < n then (s.cell c).ended else s.cell c
  devs : ∀ i, t.dev i = if (homeCell i).val < n then (s.dev i).followed (s.cell (homeCell i)) else s.dev i
  events : (s.createAll ((allCells.filter (·.val < n)).flatMap s.endEvents)).sameEvents t

theorem State.superframeEnded_zero (s : State) : s.superframeEnded 0 s where
  links := s.keepsLinks_refl
  clocks := s.keepsClocks_refl
  time := rfl
  zones := rfl
  siteCount := rfl
  store := rfl
  cells _ := rfl
  devs _ := rfl
  events := s.sameEvents_refl

/-- What the end of a superframe of one cell leaves. -/
structure State.cellEnded (s : State) (c : CellIx) (t : State) : Prop where
  links : s.keepsLinks t
  clocks : s.keepsClocks t
  time : t.time = s.time
  zones : t.zones = s.zones
  siteCount : t.siteCount = s.siteCount
  store : t.store = s.store
  cells : ∀ b, t.cell b = if b = c then (s.cell b).ended else s.cell b
  devs : ∀ i, t.dev i = if homeCell i = c then (s.dev i).followed (s.cell c) else s.dev i
  events : (s.createAll (s.endEvents c)).sameEvents t

theorem State.cellEnded_endSuperframe (s : State) (c : CellIx) : s.cellEnded c (s.endSuperframe c) := by
  let w := s.setCell c (s.cell c).ended
  have cells : ∀ b, w.cell b = if b = c then (s.cell b).ended else s.cell b := by
    intro b
    rw [State.cell_setCell]
    split
    · next h => rw [h]
    · rfl
  rw [State.endSuperframe_eq]
  by_cases hs : (s.cell c).ended.state = (s.cell c).state
  · rw [if_pos hs]
    refine ⟨⟨rfl, rfl, rfl, rfl, rfl, rfl, rfl, rfl, rfl⟩, ⟨rfl, rfl, rfl⟩, rfl, rfl, rfl, rfl, cells, fun i => ?_, ?_⟩
    · rw [Device.followed, if_pos hs, ite_self]
      rfl
    · rw [State.endEvents, if_pos hs]
      exact ⟨rfl, rfl, rfl, rfl⟩
  · rw [if_neg hs]
    have aligned := w.realigned_cell c
    refine ⟨State.keepsLinks.trans ⟨rfl, rfl, rfl, rfl, rfl, rfl, rfl, rfl, rfl⟩ aligned.links,
      State.keepsClocks.trans ⟨rfl, rfl, rfl⟩ aligned.clocks, aligned.time, aligned.zones, aligned.siteCount,
      aligned.store, fun b => ?_, fun i => ?_, ?_⟩
    · rw [← cells, State.cell, aligned.cells]
      rfl
    · rw [aligned.devs, Device.followed, if_neg hs]
      by_cases hi : homeCell i = c
      · rw [if_pos (mem_homedIn.mpr hi), if_pos hi, hi, s.cell_setCell_self]
        rfl
      · rw [if_neg (mt mem_homedIn.mp hi), if_neg hi]
        rfl
    · have told : s.endEvents c = (allDevs.filter fun i => homeCell i = c).flatMap fun i =>
          (w.dev i).alignEvents i (w.cell (homeCell i)) := by
        rw [State.endEvents, if_neg hs]
        refine List.flatMap_congr fun i hi => ?_
        rw [mem_homedIn.mp hi, s.cell_setCell_self]
        rfl
      rw [told]
      exact (State.sameEvents_createAll (s := s) (t := w) _ ⟨rfl, rfl, rfl, rfl⟩ rfl).trans aligned.events

theorem State.superframeEnded.step {c : CellIx} (h : s.superframeEnded c.val u) :
    s.superframeEnded (c.val + 1) (u.endSuperframe c) := by
  have ended := u.cellEnded_endSuperframe c
  have cell : u.cell c = s.cell c := by rw [h.cells, if_neg (lt_irrefl _)]
  have homed : ∀ i, homeCell i = c → u.dev i = s.dev i := fun i hi => by rw [h.devs, hi, if_neg (lt_irrefl _)]
  have below : ∀ b : CellIx, b ≠ c → (b.val < c.val + 1 ↔ b.val < c.val) := fun b hb => by
    have : b.val ≠ c.val := fun e => hb (Fin.ext e)
    omega
  have told : u.endEvents c = s.endEvents c := by
    rw [State.endEvents, State.endEvents, cell]
    refine if_congr .rfl rfl (List.flatMap_congr fun i hi => ?_)
    rw [homed i (mem_homedIn.mp hi)]
  obtain ⟨-, siteTime, -⟩ := h.clocks
  refine ⟨h.links.trans ended.links, h.clocks.trans ended.clocks, ended.time.trans h.time,
    ended.zones.trans h.zones, ended.siteCount.trans h.siteCount, ended.store.trans h.store, fun b => ?_, fun i => ?_, ?_⟩
  · rw [ended.cells]
    by_cases hb : b = c
    · rw [if_pos hb, hb, cell, if_pos (Nat.lt_succ_self _)]
    · rw [if_neg hb, h.cells]
      exact (if_congr (below b hb) rfl rfl).symm
  · rw [ended.devs]
    by_cases hi : homeCell i = c
    · rw [if_pos hi, homed i hi, cell, hi, if_pos (Nat.lt_succ_self _)]
    · rw [if_neg hi, h.devs]
      exact (if_congr (below _ hi) rfl rfl).symm
  · rw [allCells_filter_succ, List.flatMap_append, State.createAll_append, List.flatMap_singleton, ← told]
    exact (State.sameEvents_createAll _ h.events (by simp [siteTime])).trans ended.events

/-- The end of a superframe in every cell (R28, R32). -/
theorem State.superframeEnded_allCells (s : State) : s.superframeEnded 4 (allCells.foldl State.endSuperframe s) :=
  (((s.superframeEnded_zero.step (c := 0)).step (c := 1)).step (c := 2)).step (c := 3)

/-! ## The beacons of a superframe (R28) -/

/-- The cell with its beacon requested for tick 655, when it sends one (R28). -/
def State.beaconed (s : State) (c : CellIx) (r : Cell) : Cell :=
  if r.state.operating || r.state == .failed then
    { r with
      beaconConfirmed := false
      beaconRequested := true
      lastTx := some
        { interval := 0, tick := 655, channel := r.channel
          bytes := beaconBytes c s.time.phase s.time.cycle s.enrolmentOpen (r.state == .stopping) } }
  else { r with beaconRequested := false }

theorem State.requestBeacon_eq (s : State) (c : CellIx) :
    s.requestBeacon c = s.setCell c (s.beaconed c (s.cell c)) := by
  unfold State.requestBeacon State.beaconed
  dsimp only
  split
  · simp only [State.transmit, State.modCell_eq, State.cell_setCell_self, State.setCell_setCell]
    rfl
  · rfl

/-- The beacons of the cells requested (R28). -/
theorem State.requestBeacons_eq (s : State) : allCells.foldl State.requestBeacon s =
    { s with cells := Vector.ofFn fun c => s.beaconed c (s.cell c) } := by
  have steps : State.requestBeacon = fun u c => u.setCell c (u.beaconed c (u.cell c)) :=
    funext₂ State.requestBeacon_eq
  rw [steps]
  exact State.foldl_setCell_all (g := State.beaconed) (fun _ _ _ => rfl) s

theorem State.enrolmentOpen_iff : s.enrolmentOpen = true ↔ ∃ i, (s.dev i).life = .enrolling := by
  simp only [State.enrolmentOpen, State.findDev_isSome, beq_iff_eq]

/-- The beacon of a cell that is not Stopping (R28, section 10.4). -/
theorem State.beacon_of_not_stopping (s : State) (c : CellIx) {x : CellState} (hx : x ≠ .stopping) :
    beaconBytes c s.time.phase s.time.cycle s.enrolmentOpen (x == .stopping) =
      [0x10, BitVec.ofNat 8 c.val, BitVec.ofNat 8 s.time.phase.val, s.time.cycle.extractLsb' 0 8,
        if ∃ i, (s.dev i).life = .enrolling then 1 else 0] := by
  have going : (x == CellState.stopping) = false := beq_eq_false_iff_ne.mpr hx
  rw [beaconBytes, going]
  by_cases ho : ∃ i, (s.dev i).life = .enrolling
  · rw [if_pos ho, State.enrolmentOpen_iff.mpr ho]
    rfl
  · rw [if_neg ho, eq_false_of_ne_true (mt State.enrolmentOpen_iff.mp ho)]
    rfl

/-! ### The fields of a cell after its superframe (R28, R32) -/

theorem Cell.ended_of_running (h : r.state = .running) :
    if (if r.beaconConfirmed then 0 else r.unconfirmed + 1) < 2 then
      r.ended.state = .running ∧ r.ended.unconfirmed = if r.beaconConfirmed then 0 else r.unconfirmed + 1
    else r.ended.state = .failed ∧ r.ended.unconfirmed = 2 := by
  by_cases hb : r.beaconConfirmed = true
  · simp [Cell.ended, h, hb]
  · by_cases hn : r.unconfirmed = 0
    · simp [Cell.ended, h, hb, hn]
    · simp [Cell.ended, h, hb, hn]

theorem Cell.ended_of_stopping (h : r.state = .stopping) : r.ended.state = .off ∧ r.ended.unconfirmed = 0 := by
  simp [Cell.ended, h]

theorem Cell.ended_of_off (h : r.state = .off) :
    if r.startPending = true then r.ended.state = .running ∧ r.ended.startPending = false ∧ r.ended.unconfirmed = 0
    else r.ended.state = .off := by
  by_cases hb : r.startPending = true
  · simp [Cell.ended, h, hb]
  · simp [Cell.ended, h, hb]

theorem Cell.ended_of_idle (h : r.state = .failed ∨ r.state = .absent) : r.ended = r := by
  rcases h with h | h <;> simp only [Cell.ended, h]

/-- The end of a superframe changes the state, the pending start and the unconfirmed count alone. -/
theorem Cell.ended_kept (r : Cell) : (r.state ≠ .off → r.ended.startPending = r.startPending) ∧
    r.ended = { r with state := r.ended.state, startPending := r.ended.startPending
                       unconfirmed := r.ended.unconfirmed } := by
  unfold Cell.ended
  cases hs : r.state with
  | running => dsimp only; split <;> [skip; split] <;> exact ⟨fun _ => rfl, rfl⟩
  | stopping => exact ⟨fun _ => rfl, rfl⟩
  | off => exact ⟨fun h => absurd rfl h, by dsimp only; split <;> rfl⟩
  | failed => exact ⟨fun _ => rfl, rfl⟩
  | absent => exact ⟨fun _ => rfl, rfl⟩

/-- A change of state by the end of a superframe is one to or from operation (R27, R52). -/
theorem Cell.ended_supervises (r : Cell) : (r.ended.state = .off ∨ r.ended.state = .failed ∨ r.ended.state = .absent) ↔
    r.ended.state ≠ .running := by
  have := r.ended_not_stopping
  cases h : r.ended.state <;> simp_all

/-- A beacon request leaves every field of its cell but the flags and the transmit request (R28). -/
theorem State.beaconed_kept (s : State) (c : CellIx) (r : Cell) : s.beaconed c r =
    { r with
      beaconConfirmed := (s.beaconed c r).beaconConfirmed
      beaconRequested := (s.beaconed c r).beaconRequested
      lastTx := (s.beaconed c r).lastTx } := by
  unfold State.beaconed
  split
  · rfl
  · rfl

theorem State.beaconed_of_sending (s : State) {c : CellIx} (h : r.state = .running ∨ r.state = .failed) :
    (s.beaconed c r).beaconConfirmed = false ∧ (s.beaconed c r).beaconRequested = true ∧
      (s.beaconed c r).lastTx = some
        { interval := 0, tick := 655, channel := r.channel
          bytes := [0x10, BitVec.ofNat 8 c.val, BitVec.ofNat 8 s.time.phase.val, s.time.cycle.extractLsb' 0 8,
            if ∃ i, (s.dev i).life = .enrolling then 1 else 0] } := by
  have sends : (r.state.operating || r.state == .failed) = true := by rcases h with h | h <;> rw [h] <;> rfl
  rw [← s.beacon_of_not_stopping c (x := r.state) (by rcases h with h | h <;> rw [h] <;> nofun), State.beaconed,
    if_pos sends]
  exact ⟨rfl, rfl, rfl⟩

theorem State.beaconed_of_silent (s : State) {c : CellIx} (h : r.state = .off ∨ r.state = .absent) :
    s.beaconed c r = { r with beaconRequested := false } := by
  have silent : ¬(r.state.operating || r.state == .failed) = true := by rcases h with h | h <;> rw [h] <;> nofun
  rw [State.beaconed, if_neg silent]

/-! ### The superframe boundary -/

/-- The state in which a superframe boundary is handled: its mark taken back (log 3). -/
def State.atSuperframe (s : State) : State := { s with time := { s.time with superframeDue := false } }

theorem State.exec_superframeBoundary (hp : s.phase = .running) (hd : s.time.superframeDue = true) :
    exec .superframeBoundary s = .next s.atSuperframe.superframeBoundary := by
  change Host.Outcome.next (s.whenRunning fun s =>
    if s.time.superframeDue then s.atSuperframe.superframeBoundary else s) = _
  rw [State.whenRunning, if_pos hp, if_pos hd]

/-- The record of an entry after the end of a superframe: its Unsupervised cause follows its home cell (R52, R53). -/
theorem Device.followed_unsupervised (d : Device) (r : Cell) : d.sameButUnsupervised (d.followed r) ∧
    (d.followed r).faults.unsupervised = if d.life.owns = true ∧ r.ended.state ≠ r.state then
      decide (r.ended.state ≠ .running) else d.faults.unsupervised := by
  unfold Device.followed
  by_cases hs : r.ended.state = r.state
  · rw [if_pos hs, if_neg fun h => h.2 hs]
    exact ⟨rfl, rfl⟩
  · rw [if_neg hs]
    refine ⟨d.alignedTo_same _, ?_⟩
    by_cases ho : d.life.owns = true
    · rw [Device.alignedTo, if_pos ho, if_pos ⟨ho, hs⟩]
      exact decide_eq_decide.mpr r.ended_supervises
    · rw [Device.alignedTo, if_neg ho, if_neg fun h => ho h.1]

/-- The events of the end of a superframe of a cell, of the entries it owns in index order (R52; log 6). -/
theorem State.endEvents_eq (s : State) (c : CellIx) {q : Cell} (hq : q.state = (s.cell c).ended.state) :
    s.endEvents c = if q.state = (s.cell c).state then [] else
      (allDevs.filter fun i => decide (homeCell i = c ∧ (s.dev i).life.owns = true)).flatMap fun i =>
        unsupervisedChange (s.dev i) i q := by
  rw [hq, State.endEvents]
  refine if_congr .rfl rfl ?_
  rw [flatMap_filter_eq, flatMap_filter_eq]
  refine List.flatMap_congr fun i _ => ?_
  rw [Device.alignEvents, unsupervisedChange_congr i rfl hq]
  by_cases hc : homeCell i = c
  · simp only [hc, true_and, decide_true, if_true, decide_eq_true_eq]
  · simp only [hc, false_and, decide_false, if_false, Bool.false_eq_true]

/-- Settles O38: the two passes over the cells of a superframe boundary, and the three outcomes of a confirm. -/
theorem cellsFollowTheirBeacons : Obligations.CellsFollowTheirBeacons := by
  refine ⟨?_, ?_⟩
  · intro s hp hdue beacon
    obtain ⟨w, hw⟩ : ∃ w, w = allCells.foldl State.endSuperframe s.atSuperframe := ⟨_, rfl⟩
    have ended := s.atSuperframe.superframeEnded_allCells
    rw [← hw] at ended
    obtain ⟨t, ht⟩ : ∃ t, t = allCells.foldl State.requestBeacon w := ⟨_, rfl⟩
    have whole : s.atSuperframe.superframeBoundary = t := by rw [State.superframeBoundary, ← hw, ← ht]
    rw [State.requestBeacons_eq] at ht
    have devs : ∀ i, t.dev i = (s.dev i).followed (s.cell (homeCell i)) := fun i => by
      rw [ht]
      exact (ended.devs i).trans (if_pos (homeCell i).isLt)
    have lives : ∀ i, (w.dev i).life = (s.dev i).life := fun i => by
      have same := ((s.dev i).followed_unsupervised (s.cell (homeCell i))).1
      rw [← devs, ht] at same
      exact (congrArg Device.life same).trans rfl
    have cell : ∀ c, t.cell c = w.beaconed c (s.cell c).ended := fun c => by
      have first : w.cell c = (s.cell c).ended := (ended.cells c).trans (if_pos c.isLt)
      rw [ht, ← first]
      exact vector_getElem_ofFn _ c
    have kept : ∀ c, t.cell c = { (s.cell c).ended with
        beaconConfirmed := (t.cell c).beaconConfirmed
        beaconRequested := (t.cell c).beaconRequested
        lastTx := (t.cell c).lastTx } := fun c => by rw [cell]; exact w.beaconed_kept c _
    have state : ∀ c, (t.cell c).state = (s.cell c).ended.state := fun c =>
      (congrArg Cell.state (kept c)).trans rfl
    have unconfirmed : ∀ c, (t.cell c).unconfirmed = (s.cell c).ended.unconfirmed := fun c =>
      (congrArg Cell.unconfirmed (kept c)).trans rfl
    have start : ∀ c, (t.cell c).startPending = (s.cell c).ended.startPending := fun c =>
      (congrArg Cell.startPending (kept c)).trans rfl
    have follows : ∀ i, (s.dev i).sameButUnsupervised (t.dev i) ∧ (t.dev i).faults.unsupervised =
        if (s.dev i).life.owns = true ∧ (t.cell (homeCell i)).state ≠ (s.cell (homeCell i)).state then
          decide ((t.cell (homeCell i)).state ≠ .running)
        else (s.dev i).faults.unsupervised := fun i => by
      rw [devs, state]
      exact Device.followed_unsupervised _ _
    refine ⟨t, by rw [State.exec_superframeBoundary hp hdue, whole], fun sound i owns => ?_, ?_, ?_, ?_, ?_, ?_, follows,
      ?_, ?_, fun c => ?_⟩
    · obtain ⟨same, unsupervised⟩ := follows i
      have owned : (s.dev i).life.owns = true := by
        rw [← owns, same]
      rw [unsupervised]
      by_cases hs : (t.cell (homeCell i)).state = (s.cell (homeCell i)).state
      · rw [if_neg fun h => h.2 hs, hs]
        exact sound i owned
      · rw [if_pos ⟨owned, hs⟩, decide_eq_true_iff, state]
        exact (Cell.ended_supervises _).symm
    · rw [ht]; exact ended.links
    · rw [ht]; exact ended.clocks
    · rw [ht]; exact ended.zones
    · rw [ht]; exact ended.siteCount
    · rw [ht]; exact ended.store
    · have told : (allCells.flatMap fun c => if (t.cell c).state = (s.cell c).state then [] else
          (allDevs.filter fun i => decide (homeCell i = c ∧ (s.dev i).life.owns = true)).flatMap fun i =>
            unsupervisedChange (s.dev i) i (t.cell c)) = allCells.flatMap s.endEvents :=
        List.flatMap_congr fun c _ => (s.endEvents_eq c (state c)).symm
      rw [told]
      have marked : (s.createAll (allCells.flatMap s.endEvents)).sameEvents
          (s.atSuperframe.createAll (allCells.flatMap s.endEvents)) :=
        State.sameEvents_createAll _ ⟨rfl, rfl, rfl, rfl⟩ rfl
      rw [ht]
      exact marked.trans (ended.events.trans ⟨rfl, rfl, rfl, rfl⟩)
    · rw [ht]; exact ended.time
    · obtain ⟨starts, record⟩ := (s.cell c).ended_kept
      have channel : (s.cell c).ended.channel = (s.cell c).channel := (congrArg Cell.channel record).trans rfl
      have confirmed : (s.cell c).ended.beaconConfirmed = (s.cell c).beaconConfirmed :=
        (congrArg Cell.beaconConfirmed record).trans rfl
      have lastTx : (s.cell c).ended.lastTx = (s.cell c).lastTx := (congrArg Cell.lastTx record).trans rfl
      refine ⟨?_, fun h => (start c).trans (starts h), fun h => ?_, fun h => ?_, ?_⟩
      · rw [state, unconfirmed, start]
        cases hs : (s.cell c).state with
        | running => exact Cell.ended_of_running hs
        | stopping => exact Cell.ended_of_stopping hs
        | off => exact Cell.ended_of_off hs
        | failed => rw [Cell.ended_of_idle (.inl hs)]; exact ⟨hs, rfl⟩
        | absent => rw [Cell.ended_of_idle (.inr hs)]; exact hs
      · rw [state] at h
        obtain ⟨flag, requested, sent⟩ := w.beaconed_of_sending (c := c) h
        rw [← cell] at flag requested sent
        refine ⟨flag, requested, sent.trans ?_⟩
        have time : w.time = s.atSuperframe.time := ended.time
        simp only [lives, channel, time]
        rfl
      · rw [state] at h
        have silent := (cell c).trans (w.beaconed_of_silent h)
        rw [silent]
        exact ⟨confirmed, rfl, lastTx⟩
      · have whole := kept c
        rw [record] at whole
        refine whole.trans ?_
        rw [state, start, unconfirmed]
  · intro s c x hp r current out
    have runs : out = .next (s.confirm c x) := State.exec_transmitConfirm hp c x
    have confirms : current ↔ s.confirmsBeacon c x = true ∧ (s.cell c).state ≠ .absent := by
      rw [State.confirmsBeacon_iff, and_assoc, and_assoc, and_assoc, and_assoc, and_assoc]
    refine ⟨fun other => ?_, fun this healthy => ?_, fun this failed => ?_⟩
    · rw [runs, State.confirm, if_pos]
      rw [confirms, not_and_or, not_not] at other
      exact other.symm.imp_right fun h => by simpa using h
    · obtain ⟨this, fitted⟩ := confirms.mp this
      rw [runs, State.confirm, if_neg (by simp [this, fitted]), if_neg healthy]
      rfl
    · obtain ⟨this, fitted⟩ := confirms.mp this
      refine ⟨_, ?_, s.confirm_failed c _ rfl⟩
      rw [runs, State.confirm, if_neg (by simp [this, fitted]), if_pos failed]
      rfl

end Sys2Proof.Machine

/-! ## The settled channels (R172) -/

namespace Sys2Proof.Machine

variable {stored : Vector Channel 4} {fitted : Vector Bool 4} {c : CellIx}

/-- The channels that the fitted cells below c have been given (R172). -/
def settledBelow (stored : Vector Channel 4) (fitted : Vector Bool 4) (c : CellIx) : List Channel :=
  (allCells.filter (·.val < c.val)).foldl
    (fun below k => if fitted[k] then below ++ [settleChannel stored fitted below k] else below) []

theorem settledChannels_fitted (hf : fitted[c] = true) :
    (settledChannels stored fitted)[c] = settleChannel stored fitted (settledBelow stored fitted c) c := by
  simp only [settledChannels, vector_getElem_ofFn, if_pos hf]
  rfl

/-- An Absent cell keeps its stored channel (R172). -/
theorem settledChannels_absent (hf : fitted[c] = false) : (settledChannels stored fitted)[c] = stored[c] := by
  simp only [settledChannels, vector_getElem_ofFn, hf, Bool.false_eq_true, if_false]

/-- The list of channels given before a cell, from the one given before the cell below it. -/
theorem settledBelow_succ {b : CellIx} (hb : c.val = b.val + 1) : settledBelow stored fitted c =
    if fitted[b] then settledBelow stored fitted b ++ [(settledChannels stored fitted)[b]]
    else settledBelow stored fitted b := by
  rw [settledBelow, hb, allCells_filter_succ, List.foldl_append]
  by_cases hf : fitted[b] = true
  · rw [if_pos hf, settledChannels_fitted hf, List.foldl_cons, List.foldl_nil, if_pos hf]
    rfl
  · rw [if_neg hf, List.foldl_cons, List.foldl_nil, if_neg hf]
    rfl

/-- The channels given before cell c are those of the fitted cells below it (R172). -/
theorem mem_settledBelow {ch : Channel} (n : Nat) (c : CellIx) (hn : c.val = n) :
    ch ∈ settledBelow stored fitted c ↔
    ∃ k : CellIx, k < c ∧ fitted[k] = true ∧ (settledChannels stored fitted)[k] = ch := by
  induction n generalizing c with
  | zero =>
    have none : allCells.filter (·.val < c.val) = [] := by simp [hn]
    rw [settledBelow, none]
    exact ⟨fun h => absurd h List.not_mem_nil, fun ⟨k, hk, _⟩ => absurd (Fin.lt_def.mp hk) (by omega)⟩
  | succ n ih =>
    obtain ⟨b, hb⟩ : ∃ b : CellIx, b.val = n := ⟨⟨n, by omega⟩, rfl⟩
    have split : ∀ k : CellIx, k < c ↔ k < b ∨ k = b := fun k => by
      rw [Fin.lt_def, Fin.lt_def, Fin.ext_iff]
      omega
    simp only [settledBelow_succ (hn.trans (congrArg (· + 1) hb.symm)), split, or_and_right, exists_or, exists_eq_left]
    by_cases hf : fitted[b] = true
    · rw [if_pos hf, List.mem_append, ih b hb, List.mem_singleton, eq_comm (a := ch)]
      simp [hf]
    · rw [if_neg hf, ih b hb]
      simp [hf]

/-- The channels that cell c may take in a clash: no lower-numbered fitted cell has them and no higher-numbered one
has them stored (R172). -/
def channelFree (stored : Vector Channel 4) (fitted : Vector Bool 4) (c : CellIx) (ch : Channel) : Prop :=
  (∀ k : CellIx, k < c → fitted[k] = true → (settledChannels stored fitted)[k] ≠ ch) ∧
    ∀ k : CellIx, c < k → fitted[k] = true → stored[k] ≠ ch

theorem channelFree_iff {ch : Channel} : channelFree stored fitted c ch ↔
    ch ∉ settledBelow stored fitted c ∧ ∀ k ∈ allCells, c < k → fitted[k] → stored[k] ≠ ch := by
  rw [mem_settledBelow _ c rfl, channelFree]
  simp [mem_allCells]

/-- Of the 32 channels the settled and the stored ones of four cells leave one free (R172). -/
theorem exists_channelFree (stored : Vector Channel 4) (fitted : Vector Bool 4) (c : CellIx) :
    ∃ ch, channelFree stored fitted c ch := by
  by_contra none
  have taken : ∀ ch : Channel, ch ∈ (settledChannels stored fitted).toList ++ stored.toList := fun ch => by
    have := not_exists.mp none ch
    rw [channelFree, not_and_or] at this
    push Not at this
    rcases this with ⟨k, -, -, e⟩ | ⟨k, -, -, e⟩
    · exact List.mem_append_left _ (e ▸ by simp)
    · exact List.mem_append_right _ (e ▸ by simp)
  have all := (List.nodup_finRange 32).length_le_of_subset fun ch _ => taken ch
  simp at all

/-- The lowest channel that satisfies a test which some channel satisfies. -/
theorem lowestChannel_of_exists {ok : Channel → Bool} (h : ∃ ch, ok ch = true) :
    ∃ ch, lowestChannel ok = some ch ∧ ok ch = true ∧ ∀ b < ch, ok b = false := by
  rw [lowestChannel, ← Fin.find?_eq_find?_finRange]
  obtain ⟨ch, found⟩ := Option.isSome_iff_exists.mp (Fin.isSome_find?_iff.mpr h)
  exact ⟨ch, found, Fin.find?_eq_some_iff.mp found⟩

/-- In a clash a fitted cell takes the lowest free channel (R172). -/
theorem settledChannels_clash (hf : fitted[c] = true)
    (clash : ∃ k : CellIx, k < c ∧ fitted[k] = true ∧ (settledChannels stored fitted)[k] = stored[c]) :
    channelFree stored fitted c (settledChannels stored fitted)[c] ∧
      ∀ ch : Channel, ch < (settledChannels stored fitted)[c] → ¬channelFree stored fitted c ch := by
  have free : ∀ ch, decide (ch ∉ settledBelow stored fitted c ∧
      ∀ k ∈ allCells, c < k → fitted[k] → stored[k] ≠ ch) = true ↔ channelFree stored fitted c ch := fun ch =>
    decide_eq_true_iff.trans channelFree_iff.symm
  obtain ⟨ch, lowest, ok, below⟩ := lowestChannel_of_exists
    ((exists_channelFree stored fitted c).imp fun ch h => (free ch).mpr h)
  have settled : (settledChannels stored fitted)[c] = ch := by
    rw [settledChannels_fitted hf, settleChannel, if_pos ((mem_settledBelow _ c rfl).mpr clash), lowest]
    rfl
  rw [settled]
  exact ⟨(free ch).mp ok, fun b hb h => Bool.false_ne_true ((below b hb).symm.trans ((free b).mpr h))⟩

/-- A fitted cell keeps its stored channel when no lower-numbered fitted cell has it (R172). -/
theorem settledChannels_kept (hf : fitted[c] = true)
    (clear : ∀ k : CellIx, k < c → fitted[k] = true → (settledChannels stored fitted)[k] ≠ stored[c]) :
    (settledChannels stored fitted)[c] = stored[c] := by
  rw [settledChannels_fitted hf, settleChannel, if_neg]
  rw [mem_settledBelow _ c rfl]
  exact fun ⟨k, hk, hfk, e⟩ => clear k hk hfk e

/-- No lower-numbered fitted cell has the channel of a fitted cell (R172). -/
theorem settledChannels_lt {k : CellIx} (hk : k < c) (hfk : fitted[k] = true) (hf : fitted[c] = true) :
    (settledChannels stored fitted)[k] ≠ (settledChannels stored fitted)[c] := by
  by_cases clash : ∃ k : CellIx, k < c ∧ fitted[k] = true ∧ (settledChannels stored fitted)[k] = stored[c]
  · exact (settledChannels_clash hf clash).1.1 k hk hfk
  · push Not at clash
    rw [settledChannels_kept hf clash]
    exact clash k hk hfk

/-- The channels of the fitted cells are distinct (R172). -/
theorem settledChannels_distinct {d : CellIx} (h : c ≠ d) (hc : fitted[c] = true) (hd : fitted[d] = true) :
    (settledChannels stored fitted)[c] ≠ (settledChannels stored fitted)[d] := by
  rcases lt_or_gt_of_ne h with lt | gt
  · exact settledChannels_lt lt hc hd
  · exact (settledChannels_lt gt hd hc).symm

end Sys2Proof.Machine

/-! ## Start-up from an image (R171 to R173) -/

namespace Sys2Proof.Machine

variable {s t u : State}

/-- Start-up reads an image's roster, zone parameters, channels and site parameters (R173). -/
theorem State.restoredFrom_congr {a b : Image} (hr : a.roster = b.roster) (hz : a.zones = b.zones)
    (hc : a.channels = b.channels) (hs : a.site = b.site) (s : State) (v : Vector Bool 4) (key : Bool) :
    s.restoredFrom a v key = s.restoredFrom b v key := by
  simp only [State.restoredFrom, hr, hz, hc, hs]

/-- The state that an image restores when the probe ends (R171 to R173). -/
theorem State.restoredFrom_inForce {im : Image} (s : State) (v : Vector Bool 4) (key : Bool)
    (h : s.store.inForce = some im ∨ (s.store.inForce = none ∧ im.roster = Vector.replicate 192 none ∧
      im.zones = Vector.replicate 32 {} ∧ im.channels = #v[3, 10, 17, 24] ∧ im.site = {})) :
    s.restoredFrom (s.store.inForce.getD defaultImage) v key = s.restoredFrom im v key := by
  rcases h with h | ⟨h, roster, zones, channels, site⟩
  · rw [h]
    rfl
  · rw [h]
    exact State.restoredFrom_congr roster.symm zones.symm (Eq.trans (by decide) channels.symm) site.symm s v key

theorem State.restoredFrom_dev (s : State) (im : Image) (v : Vector Bool 4) (key : Bool) (i : DevIx) :
    (s.restoredFrom im v key).dev i = restoredDevice im.roster[i] v[homeCell i] :=
  vector_getElem_ofFn _ i

theorem State.restoredFrom_cell (s : State) (im : Image) (v : Vector Bool 4) (key : Bool) (c : CellIx) :
    (s.restoredFrom im v key).cell c =
      { state := if v[c] then .running else .absent, channel := (settledChannels im.channels v)[c] } :=
  vector_getElem_ofFn _ c

/-- A restored record holds no shadow slot (R173). -/
theorem restoredDevice_shadow (e : Option StoredEntry) (fitted : Bool) : (restoredDevice e fitted).shadow = none := by
  cases e with
  | none => rfl
  | some e => rfl

/-- The slot records prepared and the first beacons requested, cell by cell (R41, R172). -/
theorem State.prepared_beaconed (u : State) : allCells.foldl State.requestBeacon (allCells.foldl State.prepareSlots u) =
    { u with cells := Vector.ofFn fun c => u.beaconed c (u.prepared c (u.cell c)) } := by
  obtain ⟨cs, prepared, cells⟩ := State.prepareSlots_foldl allCells u
  rw [prepared, State.requestBeacons_eq]
  refine State.withCells_ext fun c => ?_
  have cell : State.cell { u with cells := cs } c = u.prepared c (u.cell c) := (cells c).trans (if_pos (mem_allCells c))
  rw [vector_getElem_ofFn, vector_getElem_ofFn, cell]
  rfl

/-- The prepared slot record when no entry holds a shadow slot (R41). -/
theorem State.prepared_unshadowed (shadows : ∀ k, (s.dev k).shadow = none) {c : CellIx} {r : Cell}
    (h : r.state ≠ .absent) : s.prepared c r =
      { r with slots := Vector.ofFn fun h =>
          if (s.dev (slotIndex c h)).life.owns = true then SlotEntry.expecting else .unowned } := by
  rw [State.prepared, if_neg h]
  have owned : ∀ k, s.slotOwned c k = true ↔ (s.dev (slotIndex c k)).life.owns = true := fun k => by
    rw [State.slotOwned_iff]
    simp [shadows]
  simp only [owned]

/-- The beacon of a Running cell requested, the whole record (R28). -/
theorem State.beaconed_running (s : State) (c : CellIx) {r : Cell} (h : r.state = .running) : s.beaconed c r =
    { r with
      beaconConfirmed := false
      beaconRequested := true
      lastTx := some
        { interval := 0, tick := 655, channel := r.channel
          bytes := [0x10, BitVec.ofNat 8 c.val, BitVec.ofNat 8 s.time.phase.val, s.time.cycle.extractLsb' 0 8,
            if ∃ i, (s.dev i).life = .enrolling then 1 else 0] } } := by
  obtain ⟨flag, requested, sent⟩ := s.beaconed_of_sending (c := c) (.inl h)
  rw [State.beaconed_kept, flag, requested, sent]

/-- The end of the probe (R172, R173). -/
theorem State.exec_probeTimeout {v : Vector Bool 4} (hp : s.phase = .probing v) (key : Bool) :
    exec (.probeTimeout key) s = .next (allCells.foldl State.requestBeacon (allCells.foldl State.prepareSlots
      (s.restoredFrom (s.store.inForce.getD defaultImage) v key))) := by
  change Host.Outcome.next (s.finishStartUp key) = _
  rw [State.finishStartUp, hp]

/-- PROBE_TIMEOUT restores the image in force and settles the channels. Settles O53, with the state that start-up
leaves written out once, and the channels from the list that the lower-numbered cells have taken. -/
theorem startUpRestoresImage : Obligations.StartUpRestoresImage := by
  refine ⟨?_, ?_⟩
  · intro s v im key hp image pin
    have runs := State.exec_probeTimeout hp key
    rw [State.restoredFrom_inForce s v key image, State.prepared_beaconed] at runs
    obtain ⟨u, hu⟩ : ∃ u, u = s.restoredFrom im v key := ⟨_, rfl⟩
    have dev : ∀ i, u.dev i = restoredDevice im.roster[i] v[homeCell i] := fun i => by rw [hu, State.restoredFrom_dev]
    rw [← hu] at runs
    refine ⟨_, runs, hu ▸ rfl, hu ▸ rfl, hu ▸ rfl, hu ▸ rfl, hu ▸ rfl,
      hu ▸ rfl, hu ▸ rfl, hu ▸ rfl, hu ▸ rfl, hu ▸ rfl, hu ▸ rfl,
      hu ▸ rfl, hu ▸ rfl, hu ▸ rfl, hu ▸ rfl, hu ▸ rfl, fun z => ?_, fun i hi => ?_,
      fun i e hi => ?_, ?_⟩
    · rw [hu]
      exact vector_getElem_ofFn _ z
    · exact (dev i).trans (by rw [hi]; rfl)
    · exact (dev i).trans (by rw [hi]; rfl)
    · intro beacon c channel
      have became : State.cell { u with cells := Vector.ofFn fun c => u.beaconed c (u.prepared c (u.cell c)) } c =
          u.beaconed c (u.prepared c (u.cell c)) := vector_getElem_ofFn _ c
      have cell : u.cell c =
          { state := if v[c] then .running else .absent, channel := (settledChannels im.channels v)[c] } :=
        (congrArg (State.cell · c) hu).trans (s.restoredFrom_cell im v key c)
      refine ⟨fun hf => ?_, fun hf => ?_⟩
      · rw [if_pos hf] at cell
        have shadows : ∀ k, (u.dev k).shadow = none := fun k =>
          (congrArg Device.shadow (dev k)).trans (restoredDevice_shadow _ _)
        have time : u.time = {} := by rw [hu]; rfl
        rw [became, cell, State.prepared_unshadowed shadows (CellState.noConfusion ·),
          State.beaconed_running u c rfl, time]
        rfl
      · rw [hf, if_neg Bool.false_ne_true, settledChannels_absent hf] at cell
        rw [became, cell, State.prepared, if_pos rfl, State.beaconed_of_silent u (.inr rfl)]
  · intro stored fitted settled
    exact ⟨fun c d h hc hd => settledChannels_distinct h hc hd, fun c hf h => settledChannels_kept hf h,
      fun c hf h => settledChannels_clash hf h, fun c hf => settledChannels_absent hf⟩

end Sys2Proof.Machine

/-! ## Baselines brought within a new limit (R75, R77, R93) -/

namespace Sys2Proof.Machine

variable {s t u : State} {d : Device}

/-- Whether a baseline leaves a record Contaminated under a limit (R76). -/
def Device.dirtyAt (d : Device) (limit b : Nat) : Bool :=
  if limit ≤ b then true else if b + 32 < limit then false else d.faults.contaminated

/-- The record with its baseline brought within a limit, and Contaminated decided when it is Supervised (R75, R77). -/
def Device.limitedTo (d : Device) (limit : Nat) : Device :=
  match d.smoke.baseline with
  | none => d
  | some b =>
    { d with
      smoke := { d.smoke with baseline := some (min limit b) }
      faults := { d.faults with
        contaminated := if d.life = .supervised then d.dirtyAt limit b else d.faults.contaminated } }

/-- The event of that decision, when it changes the cause (R77). -/
def Device.limitEvents (d : Device) (i : DevIx) (limit : Nat) : List EventBody :=
  match d.smoke.baseline with
  | none => []
  | some b =>
    if d.life = .supervised ∧ d.dirtyAt limit b ≠ d.faults.contaminated then
      if d.dirtyAt limit b = true then [.deviceFault i .contaminated] else [.deviceRestored i (.cause .contaminated)]
    else []

theorem Device.withContaminated_self {v : Bool} (h : d.faults.contaminated = v) :
    { d with faults := { d.faults with contaminated := v } } = d := by rw [← h]

/-- Contaminated decided for a baseline that has been brought within the limit (R76). -/
theorem Eval.contaminated_min (d : Device) (x : Setting) (b limit : Nat) :
    ({ d := d } : Eval).contaminated x (min limit b) limit =
      { d := { d with faults := { d.faults with contaminated := d.dirtyAt limit b } }
        events := if d.dirtyAt limit b ≠ d.faults.contaminated then
          if d.dirtyAt limit b = true then [.deviceFault x.i .contaminated]
          else [.deviceRestored x.i (.cause .contaminated)]
        else [] } := by
  unfold Eval.contaminated Device.dirtyAt
  by_cases above : limit ≤ b
  · rw [if_pos (min_eq_left above), if_pos above, Eval.fail]
    cases hf : d.faults.contaminated with
    | true => simp [FaultSet.has, hf, Device.withContaminated_self hf]
    | false => simp [FaultSet.has, hf, FaultSet.put]
  · have smaller : min limit b = b := min_eq_right (by omega)
    rw [smaller, if_neg (by omega), if_neg above]
    by_cases below : b + 32 < limit
    · rw [if_pos below, if_pos below, Eval.restore]
      cases hf : d.faults.contaminated with
      | true => simp [FaultSet.has, hf, FaultSet.put]
      | false => simp [FaultSet.has, hf, Device.withContaminated_self hf]
    · rw [if_neg below, if_neg below]
      simp

/-- The limit that a smoke member's zone sets (R75). -/
def State.limitOf (s : State) (i : DevIx) : Nat := 16 * (s.zone (s.dev i).zone).params.compLimit

theorem State.limitMember_eq (s : State) (i : DevIx) : s.limitMember i =
    (s.setDev i ((s.dev i).limitedTo (s.limitOf i))).createAll ((s.dev i).limitEvents i (s.limitOf i)) := by
  unfold State.limitMember Device.limitedTo Device.limitEvents
  cases hb : (s.dev i).smoke.baseline with
  | none => exact (s.setDev_self i).symm
  | some b =>
    dsimp only
    rw [← State.limitOf, Eval.contaminated_min]
    by_cases hl : (s.dev i).life = .supervised
    · simp only [hl, if_true, true_and]
      rfl
    · simp only [hl, if_false, false_and]
      rfl

theorem State.withRoster_ext {v w : Vector Device 192} (h : ∀ i : DevIx, v[i] = w[i]) :
    ({ s with roster := v } : State) = { s with roster := w } := by
  have : v = w := Vector.ext fun i hi => h ⟨i, hi⟩
  rw [this]

/-- Changing every record and creating events are independent (R131). -/
theorem State.mapDevs_createAll (s : State) (f : DevIx → Device → Device) (bs : List EventBody) :
    (s.createAll bs).mapDevs f = (s.mapDevs f).createAll bs := by
  induction bs generalizing s with
  | nil => rfl
  | cons b bs ih =>
    have cells : (s.create b).cells = s.cells := s.create_cells b
    have created : (s.create b).mapDevs f = (s.mapDevs f).create b := by
      refine Eq.trans ?_ (s.create_with (s.mapDevs f).roster s.cells b).symm
      simp only [State.mapDevs, State.create_dev, ← cells]
    rw [State.createAll_cons, State.createAll_cons, ih, created]

/-- The baselines of a list of members brought within one limit (R77, R93). -/
theorem State.limitMembers_foldl (limit : Nat) (l : List DevIx) (hl : l.Nodup) (s : State)
    (h : ∀ i ∈ l, s.limitOf i = limit) : l.foldl State.limitMember s =
      (s.mapDevs fun i d => if i ∈ l then d.limitedTo limit else d).createAll
        (l.flatMap fun i => (s.dev i).limitEvents i limit) := by
  induction l generalizing s with
  | nil =>
    refine (State.withRoster_ext (s := s) (v := s.roster) fun i => ?_)
    rw [vector_getElem_ofFn]
    rfl
  | cons a l ih =>
    obtain ⟨ha, hl⟩ := List.nodup_cons.mp hl
    let w := s.setDev a ((s.dev a).limitedTo limit)
    let v := w.createAll ((s.dev a).limitEvents a limit)
    have first : s.limitMember a = v := by rw [s.limitMember_eq a, h a List.mem_cons_self]
    have dev : ∀ i ∈ l, v.dev i = s.dev i := fun i hi =>
      (State.createAll_dev w _ i).trans (s.dev_setDev_ne _ (ne_of_mem_of_not_mem hi ha))
    have limits : ∀ i ∈ l, v.limitOf i = limit := fun i hi => by
      rw [State.limitOf, dev i hi, State.createAll_zone]
      exact h i (List.mem_cons_of_mem a hi)
    have told : (l.flatMap fun i => (v.dev i).limitEvents i limit) = l.flatMap fun i => (s.dev i).limitEvents i limit :=
      List.flatMap_congr fun i hi => by rw [dev i hi]
    have records : w.mapDevs (fun i d => if i ∈ l then d.limitedTo limit else d) =
        s.mapDevs fun i d => if i ∈ a :: l then d.limitedTo limit else d := by
      refine State.withRoster_ext fun i => ?_
      rw [vector_getElem_ofFn, vector_getElem_ofFn, State.dev_setDev]
      dsimp only
      by_cases hi : i = a
      · rw [hi, if_neg ha, if_pos rfl, if_pos List.mem_cons_self]
      · rw [if_neg hi]
        exact if_congr (by simp [hi]) rfl rfl
    rw [List.foldl_cons, first, ih hl v limits, told, State.mapDevs_createAll, records, List.flatMap_cons,
      State.createAll_append]

end Sys2Proof.Machine

/-! ## What the Zone Table's handling of one zone leaves (R105, R107, R108) -/

namespace Sys2Proof.Machine

variable {s t u : State} {d : Device}

/-- A record in which a latch clear and a standing level changed the condition and the verification alone (R87, R108). -/
def Device.recleared (d e : Device) : Prop := e = { d with cond := e.cond, verif := e.verif }

theorem Device.recleared_with (d : Device) (c : Cond) (m : Verification) :
    d.recleared { d with cond := c, verif := m } := rfl

/-- The handling of zone z, without a latch's beginning: it leaves the other zones, and in its own the parameters and
the generation; of the records it changes the condition and verification of members at most. -/
structure State.zoneOnly (s : State) (z : ZoneIx) (t : State) : Prop where
  links : s.keepsLinks t
  clocks : s.keepsClocks t
  time : t.time = s.time
  cells : t.cells = s.cells
  store : t.store = s.store
  siteCount : t.siteCount = s.siteCount
  params : (t.zone z).params = (s.zone z).params
  generation : (t.zone z).generation = (s.zone z).generation
  others : ∀ y, y ≠ z → t.zone y = s.zone y
  devs : ∀ i, (s.dev i).recleared (t.dev i)
  strangers : ∀ i, (s.dev i).memberOf z = false → t.dev i = s.dev i

/-- A condition and a verification do not make a member (R91). -/
theorem Device.recleared.memberOf {e : Device} (h : d.recleared e) (z : ZoneIx) : e.memberOf z = d.memberOf z := by
  rw [show e = _ from h]
  rfl

theorem State.zoneOnly.trans {z : ZoneIx} (h : s.zoneOnly z t) (h' : t.zoneOnly z u) : s.zoneOnly z u where
  links := h.links.trans h'.links
  clocks := h.clocks.trans h'.clocks
  time := h'.time.trans h.time
  cells := h'.cells.trans h.cells
  store := h'.store.trans h.store
  siteCount := h'.siteCount.trans h.siteCount
  params := h'.params.trans h.params
  generation := h'.generation.trans h.generation
  others y hy := (h'.others y hy).trans (h.others y hy)
  devs i := by
    have second : u.dev i = _ := h'.devs i
    have first : t.dev i = _ := h.devs i
    rw [first] at second
    exact second
  strangers i hi := (h'.strangers i (((h.devs i).memberOf z).trans hi)).trans (h.strangers i hi)

theorem State.zoneOnly_create (s : State) (z : ZoneIx) (b : EventBody) : s.zoneOnly z (s.create b) :=
  ⟨s.keepsLinks_create b, s.keepsClocks_create b, s.create_time b, s.create_cells b, s.create_store b,
    s.create_siteCount b, congrArg _ (s.create_zone b z), congrArg _ (s.create_zone b z), fun y _ => s.create_zone b y,
    fun i => (s.create_dev b i).symm ▸ rfl, fun i _ => s.create_dev b i⟩

theorem State.zoneOnly_recompute (s : State) (z : ZoneIx) : s.zoneOnly z (s.recompute z) := by
  obtain ⟨generation, -, -, -, -, params⟩ := s.recompute_kept z z
  exact ⟨s.keepsLinks_recompute z, ⟨s.recompute_runClock z, s.recompute_siteTime z, s.recompute_restart z⟩,
    s.recompute_time z, s.recompute_cells z, s.recompute_store z, s.recompute_siteCount z, params, generation,
    fun _ => s.recompute_zone_of_ne, fun i => (s.recompute_dev z i).symm ▸ rfl, fun i _ => s.recompute_dev z i⟩

/-- A member whose condition and verification are changed. -/
theorem State.zoneOnly_setDev {z : ZoneIx} {i : DevIx} (h : (s.dev i).recleared d) (hm : (s.dev i).memberOf z = true) :
    s.zoneOnly z (s.setDev i d) := by
  refine ⟨⟨rfl, rfl, rfl, rfl, rfl, rfl, rfl, rfl, rfl⟩, ⟨rfl, rfl, rfl⟩, rfl, rfl, rfl, rfl, rfl, rfl, fun _ _ => rfl,
    fun k => ?_, fun k hk => ?_⟩
  · rw [State.dev_setDev]
    split
    · next e => rw [e]; exact h
    · rfl
  · exact s.dev_setDev_ne _ fun e => Bool.false_ne_true (hk.symm.trans (e ▸ hm))

/-- A latch clear with a condition set, the whole record (R87, R108). -/
theorem Device.latchCleared_with (d : Device) (c : Cond) :
    { d.latchCleared with cond := c } = { d with cond := c, verif := if d.kind = .smoke then {} else d.verif } := by
  unfold Device.latchCleared Device.verifCleared
  split
  · rfl
  · rfl

/-- The state in which member i's latch has lapsed, before the roll-up is recomputed (R108). -/
def State.lapsed (s : State) (z : ZoneIx) (i : DevIx) : State :=
  (s.setDev i { s.dev i with
    cond := if standingTest (s.dev i) (s.zone z) = true then .preAlarm else .quiet
    verif := if (s.dev i).kind = .smoke then {} else (s.dev i).verif }).create
      (.corroborationLapsed z i (s.zone z).generation)

theorem State.zoneOnly_lapsed {z : ZoneIx} {i : DevIx} (hm : (s.dev i).memberOf z = true) :
    s.zoneOnly z (s.lapsed z i) :=
  (State.zoneOnly_setDev (Device.recleared_with _ _ _) hm).trans (State.zoneOnly_create _ _ _)

/-- The lapse is of the first counted latched member, when there is one (R108; log 37). -/
theorem State.lapse_cases (s : State) (z : ZoneIx) :
    (s.findDev (fun _ d => s.countedMember z d && d.cond == .fireLatched) = none ∧ s.lapse z = s.recompute z) ∨
      ∃ i, s.countedMember z (s.dev i) = true ∧ (s.dev i).cond = .fireLatched ∧
        s.lapse z = (s.lapsed z i).recompute z := by
  unfold State.lapse
  cases found : s.findDev fun _ d => s.countedMember z d && d.cond == .fireLatched with
  | none => exact .inl ⟨rfl, rfl⟩
  | some i =>
    have latched := State.findDev_some found
    rw [Bool.and_eq_true, beq_iff_eq] at latched
    refine .inr ⟨i, latched.1, latched.2, ?_⟩
    rw [State.lapsed, ← Device.latchCleared_with]
    rfl

/-- The lapse clears the single counted latched member (R108). -/
theorem State.lapse_single {z : ZoneIx} {i : DevIx} (hc : s.countedMember z (s.dev i) = true)
    (hf : (s.dev i).cond = .fireLatched)
    (single : ∀ k, s.countedMember z (s.dev k) = true → (s.dev k).cond = .fireLatched → k = i) :
    s.lapse z = (s.lapsed z i).recompute z := by
  rcases s.lapse_cases z with ⟨none, -⟩ | ⟨k, hk, hkf, e⟩
  · have := State.findDev_eq_none.mp none i
    simp [hc, hf] at this
  · rw [e, single k hk hkf]

theorem State.zoneOnly_lapse (s : State) (z : ZoneIx) : s.zoneOnly z (s.lapse z) := by
  rcases s.lapse_cases z with ⟨-, e⟩ | ⟨i, counted, -, e⟩
  · exact e ▸ s.zoneOnly_recompute z
  · rw [State.countedMember, Bool.and_eq_true] at counted
    exact e ▸ (State.zoneOnly_lapsed counted.1).trans (State.zoneOnly_recompute _ z)

/-! ## The roll-up taken (R103 to R105) -/

/-- The roll-up reads the records, and of the zone's own the mode, the disablement and the test (R95, R103, R104). -/
theorem State.rollUp_congr {z : ZoneIx} (hr : t.roster = s.roster) (hd : (t.zone z).disabled = (s.zone z).disabled)
    (ht : (t.zone z).test = (s.zone z).test) (hp : (t.zone z).params = (s.zone z).params) :
    t.rollUp z = s.rollUp z := by
  have dev : ∀ i, t.dev i = s.dev i := fun i => by rw [State.dev, hr]; rfl
  have counts : ∀ q, t.countedWith z q = s.countedWith z q := fun q => by
    simp only [State.countedWith, State.countDevs, State.countedMember, Device.countedIn, dev, hd, ht]
  simp only [State.rollUp, counts, hd, hp]

/-- A recomputation takes the condition that the zone's members make (R105). -/
theorem State.recompute_cond (s : State) (z : ZoneIx) : ((s.recompute z).zone z).cond = s.rollUp z := by
  unfold State.recompute
  dsimp only
  split
  · next same => exact same.symm
  · rw [State.create_zone, State.modZone, State.zone_setZone_self]
    rfl

theorem State.recompute_rollUp (s : State) (z : ZoneIx) :
    (s.recompute z).rollUp z = ((s.recompute z).zone z).cond := by
  obtain ⟨-, -, -, test, disabled, params⟩ := s.recompute_kept z z
  rw [State.recompute_cond, State.rollUp_congr (s.recompute_roster z) disabled test params]

/-- After a lapse too (R108). -/
theorem State.lapse_rollUp (s : State) (z : ZoneIx) : (s.lapse z).rollUp z = ((s.lapse z).zone z).cond := by
  rcases s.lapse_cases z with ⟨-, e⟩ | ⟨i, -, -, e⟩
  · rw [e, State.recompute_rollUp]
  · rw [e, State.recompute_rollUp]

/-- The corroboration window of a zone has run out (R107). -/
theorem State.windowExpired_iff {z : ZoneIx} : s.windowExpired z = true ↔ (s.zone z).cond = .alerted ∧
    ∃ t, (s.zone z).firstLatch = some t ∧ t + 4 * (s.zone z).params.corrWindow ≤ s.runClock := by
  simp only [State.windowExpired, Bool.and_eq_true, beq_iff_eq]
  refine and_congr_right fun _ => ?_
  cases (s.zone z).firstLatch with
  | none => simp
  | some t => simp

end Sys2Proof.Machine

/-! ## Parameters in force (R31, R51, R93, R159) -/

namespace Sys2Proof.Machine

variable {s t u : State} {d : Device}

/-- The smoke members of a zone (R77, R91). -/
theorem mem_smokeMembers {z : ZoneIx} {i : DevIx} :
    i ∈ s.smokeMembers z ↔ (s.dev i).life ≠ .vacant ∧ (s.dev i).kind = .smoke ∧ (s.dev i).zone = z := by
  simp only [State.smokeMembers, State.members, List.mem_filter, mem_allDevs, true_and, Device.memberOf,
    Bool.and_eq_true, bne_iff_ne, beq_iff_eq]
  refine ⟨fun ⟨⟨⟨life, _⟩, zone⟩, kind⟩ => ⟨life, kind, zone⟩, fun ⟨life, kind, zone⟩ => ⟨⟨⟨life, ?_⟩, zone⟩, kind⟩⟩
  rw [kind]
  nofun

/-- A record whose baseline a new parameter set of zone z brings within its limit (R75, R93). -/
abbrev Device.limits (d : Device) (z : ZoneIx) (old new : ZoneParams) : Prop :=
  new.compLimit ≠ old.compLimit ∧ d.life ≠ .vacant ∧ d.kind = .smoke ∧ d.zone = z

/-- The events of Contaminated decided for the smoke members of a zone, in index order (R77, R93). -/
def State.limitEvents (s : State) (z : ZoneIx) (p : ZoneParams) : List EventBody :=
  allDevs.flatMap fun i =>
    if (s.dev i).limits z (s.zone z).params p then (s.dev i).limitEvents i (16 * p.compLimit) else []

/-- The new set in force with the baselines brought within its limit, before the roll-up is recomputed (R93). -/
def State.limited (s : State) (z : ZoneIx) (p : ZoneParams) : State :=
  ((s.setZone z { s.zone z with params := p }).mapDevs fun _ d =>
    if d.limits z (s.zone z).params p then d.limitedTo (16 * p.compLimit) else d).createAll (s.limitEvents z p)

/-- The first step of R93 takes the members in index order, and only when the limit changes. -/
theorem State.limited_eq (s : State) (z : ZoneIx) (p : ZoneParams) : s.limited z p =
    let t := s.modZone z fun r => { r with params := p }
    if p.compLimit = (s.zone z).params.compLimit then t else (t.smokeMembers z).foldl State.limitMember t := by
  let t := s.modZone z fun r => { r with params := p }
  have zone : t.zone z = { s.zone z with params := p } := s.zone_setZone_self z _
  have dev : ∀ i, t.dev i = s.dev i := fun _ => rfl
  unfold State.limited
  dsimp only
  by_cases hp : p.compLimit = (s.zone z).params.compLimit
  · have none : ∀ d : Device, ¬d.limits z (s.zone z).params p := fun d h => h.1 hp
    have untold : s.limitEvents z p = [] :=
      List.flatMap_eq_nil_iff.mpr fun i _ => if_neg (none _)
    rw [untold, if_pos hp, State.createAll_nil]
    simp only [none, if_false]
    refine (State.withRoster_ext (s := t) (w := s.roster) fun i => ?_)
    rw [vector_getElem_ofFn]
    rfl
  · have limit : ∀ i ∈ t.smokeMembers z, t.limitOf i = 16 * p.compLimit := fun i hi => by
      obtain ⟨-, -, member⟩ := mem_smokeMembers.mp hi
      rw [State.limitOf, member, zone]
    have member : ∀ i, i ∈ t.smokeMembers z ↔ (s.dev i).limits z (s.zone z).params p := fun i =>
      mem_smokeMembers.trans (and_iff_right hp).symm
    have nodup : (t.smokeMembers z).Nodup := List.Nodup.filter _ (List.nodup_finRange 192)
    have told : ((t.smokeMembers z).flatMap fun i => (t.dev i).limitEvents i (16 * p.compLimit)) =
        s.limitEvents z p := by
      rw [State.smokeMembers, State.members, flatMap_filter_eq, State.limitEvents]
      refine List.flatMap_congr fun i hi => ?_
      rw [dev]
      refine if_congr ?_ rfl rfl
      rw [← member, State.smokeMembers, State.members, List.mem_filter, dev]
      exact (and_iff_right hi).symm
    rw [if_neg hp, State.limitMembers_foldl _ _ nodup t limit, told]
    refine congrArg (State.createAll · _) (State.withRoster_ext fun i => ?_)
    rw [vector_getElem_ofFn, vector_getElem_ofFn]
    exact (if_congr (member i) rfl rfl).symm

theorem State.limited_dev (s : State) (z : ZoneIx) (p : ZoneParams) (i : DevIx) : (s.limited z p).dev i =
    if (s.dev i).limits z (s.zone z).params p then (s.dev i).limitedTo (16 * p.compLimit) else s.dev i := by
  rw [State.limited, State.createAll_dev, State.dev_mapDevs]
  rfl

theorem State.limited_zone (s : State) (z : ZoneIx) (p : ZoneParams) (y : ZoneIx) :
    (s.limited z p).zone y = if y = z then { s.zone z with params := p } else s.zone y := by
  rw [State.limited, State.createAll_zone, State.mapDevs_zone, State.zone_setZone]

/-- Changing one zone and the records leaves the rest of the state. -/
theorem State.mapDevs_setZone_kept (s : State) (z : ZoneIx) (r : Zone) (f : DevIx → Device → Device) :
    s.keepsLinks ((s.setZone z r).mapDevs f) ∧ s.keepsClocks ((s.setZone z r).mapDevs f) ∧
      ((s.setZone z r).mapDevs f).time = s.time ∧ ((s.setZone z r).mapDevs f).cells = s.cells ∧
      ((s.setZone z r).mapDevs f).store = s.store ∧ ((s.setZone z r).mapDevs f).siteCount = s.siteCount := by
  simp [State.keepsLinks, State.keepsClocks]

/-- Bringing the baselines within a limit changes records and one zone, and creates events. -/
theorem State.limited_kept (s : State) (z : ZoneIx) (p : ZoneParams) :
    s.keepsLinks (s.limited z p) ∧ s.keepsClocks (s.limited z p) ∧ (s.limited z p).time = s.time ∧
      (s.limited z p).cells = s.cells ∧ (s.limited z p).store = s.store ∧ (s.limited z p).siteCount = s.siteCount := by
  obtain ⟨links, clocks, time, cells, store, siteCount⟩ := s.mapDevs_setZone_kept z { s.zone z with params := p }
    fun _ d => if d.limits z (s.zone z).params p then d.limitedTo (16 * p.compLimit) else d
  exact ⟨links.trans (State.keepsLinks_createAll _ (s.limitEvents z p)),
    clocks.trans (State.keepsClocks_createAll _ (s.limitEvents z p)), (State.createAll_time _ _).trans time,
    (State.createAll_cells _ _).trans cells, (State.createAll_store _ _).trans store,
    (State.createAll_siteCount _ _).trans siteCount⟩

/-- The steps of R93: the new set with the baselines, the roll-up, and the lapse of a window that has run out. -/
theorem State.withParams_eq (s : State) (z : ZoneIx) (p : ZoneParams) : s.withParams z p =
    if ((s.limited z p).recompute z).windowExpired z then ((s.limited z p).recompute z).lapse z
    else (s.limited z p).recompute z := by
  rw [State.limited_eq]
  rfl

/-- The last two steps of R93 handle the zone alone. -/
theorem State.zoneOnly_withParams (s : State) (z : ZoneIx) (p : ZoneParams) :
    (s.limited z p).zoneOnly z (s.withParams z p) := by
  have recomputed := (s.limited z p).zoneOnly_recompute z
  rw [State.withParams_eq]
  split
  · exact recomputed.trans (State.zoneOnly_lapse _ z)
  · exact recomputed

theorem State.withParams_rollUp (s : State) (z : ZoneIx) (p : ZoneParams) :
    (s.withParams z p).rollUp z = ((s.withParams z p).zone z).cond := by
  rw [State.withParams_eq]
  split
  · exact State.lapse_rollUp _ z
  · exact State.recompute_rollUp _ z

/-- The baseline and the faults of a record brought within a limit (R75, R77). -/
theorem Device.limitedTo_of_baseline {limit b : Nat} (hb : d.smoke.baseline = some b) :
    (d.limitedTo limit).smoke.baseline = some (min limit b) ∧
      (d.life = .supervised → (d.limitedTo limit).faults.contaminated = d.dirtyAt limit b) ∧
      (d.life ≠ .supervised → (d.limitedTo limit).faults = d.faults) := by
  unfold Device.limitedTo
  rw [hb]
  exact ⟨rfl, fun h => if_pos h, fun h => by simp only [if_neg h]⟩

/-- A good write end of Link S's command leaves the links, the clocks and the zones (R168). -/
theorem State.endWrite_keepsLinks (s : State) (v : Bool) : s.keepsLinks (s.endWrite v) := by
  refine ⟨?_, ?_, ?_, ?_, ?_, ?_, ?_, ?_, ?_⟩ <;> simp

theorem State.endWrite_keepsClocks (s : State) (v : Bool) : s.keepsClocks (s.endWrite v) := by
  refine ⟨?_, ?_, ?_⟩ <;> simp

theorem State.endWrite_zone (s : State) (v : Bool) (z : ZoneIx) : (s.endWrite v).zone z = s.zone z := by
  rw [State.zone, State.endWrite_zones]
  rfl

theorem State.endWrite_cell (s : State) (v : Bool) (c : CellIx) : (s.endWrite v).cell c = s.cell c := by
  rw [State.cell, State.endWrite_cells]
  rfl

/-- The records and zones of a zone parameter write that ends, whatever the lapse does (R93, R105). -/
theorem State.withParams_kept (s : State) (z : ZoneIx) (p : ZoneParams) :
    let v := (s.endWrite true).withParams z p
    s.keepsLinks v ∧ s.keepsClocks v ∧ v.time = s.time ∧ v.cells = s.cells ∧ v.store = (s.endWrite true).store ∧
      (v.zone z).params = p ∧ (v.zone z).generation = (s.zone z).generation ∧ v.siteCount = s.siteCount ∧
      ∀ y, y ≠ z → v.zone y = s.zone y := by
  intro v
  let e := s.endWrite true
  have handled : (e.limited z p).zoneOnly z v := e.zoneOnly_withParams z p
  obtain ⟨links, clocks, time, cells, store, siteCount⟩ := e.limited_kept z p
  have zone := e.limited_zone z p z
  rw [if_pos rfl, s.endWrite_zone true z] at zone
  refine ⟨((s.endWrite_keepsLinks true).trans links).trans handled.links,
    ((s.endWrite_keepsClocks true).trans clocks).trans handled.clocks,
    (handled.time.trans time).trans (s.endWrite_time true), (handled.cells.trans cells).trans (s.endWrite_cells true),
    handled.store.trans store, ?_, ?_, (handled.siteCount.trans siteCount).trans (s.endWrite_siteCount true),
    fun y hy => ?_⟩
  · rw [handled.params, zone]
  · rw [handled.generation, zone]
  · rw [handled.others y hy, State.limited_zone, if_neg hy]
    exact s.endWrite_zone true y

/-- What a zone parameter write that ends leaves of a record (R75, R77, R87). -/
theorem State.withParams_dev (s : State) (z : ZoneIx) (p : ZoneParams) (i : DevIx) :
    ∃ on, Device.recleared (if (s.dev i).limits z (s.zone z).params p then
        ({ s.dev i with outstanding := on } : Device).limitedTo (16 * p.compLimit)
      else { s.dev i with outstanding := on }) (((s.endWrite true).withParams z p).dev i) ∧
      ((s.dev i).zone ≠ z → ((s.endWrite true).withParams z p).dev i = { s.dev i with outstanding := on }) := by
  obtain ⟨on, same⟩ := s.endWrite_dev true i
  have handled := (s.endWrite true).zoneOnly_withParams z p
  have dev := (s.endWrite true).limited_dev z p i
  rw [same, s.endWrite_zone] at dev
  refine ⟨on, dev ▸ handled.devs i, fun away => ?_⟩
  have stays := dev.trans (if_neg fun ⟨_, _, _, member⟩ => away member)
  rw [handled.strangers i, stays]
  rw [stays]
  exact Bool.and_eq_false_iff.mpr (.inr (beq_false_of_ne away))

/-- The state after the second step of R93, spelled out. -/
theorem State.recompute_limited (s : State) (z : ZoneIx) (p : ZoneParams) : (s.limited z p).recompute z =
    let first := s.limited z p
    let c := first.rollUp z
    if c = (s.zone z).cond then first else
      (first.setZone z { s.zone z with
        params := p
        cond := c
        firstLatch := if c = .alerted then some s.runClock else none
        ack := if c = .quiet ∨ c = .preAlarm then none else (s.zone z).ack }).create
          (.zoneCondition z c (s.zone z).generation) := by
  have zone := s.limited_zone z p z
  rw [if_pos rfl] at zone
  obtain ⟨-, ⟨clock, -, -⟩, -⟩ := s.limited_kept z p
  unfold State.recompute State.modZone Zone.withCond
  rw [zone, clock]

end Sys2Proof.Machine

/-! ## The write ends of the parameter commands (R31, R93, R159) -/

namespace Sys2Proof.Machine

variable {s t u : State} {d : Device}

/-- The new values are in force, in the order of R93. Settles O26, with the baselines brought within the limit as one
change of all records, and the handling of the zone after it by what it keeps. -/
theorem parameterWriteEnds : Obligations.ParameterWriteEnds := by
  refine ⟨fun s z p tag hw => ?_, fun s tag => ⟨fun p hw => ?_, fun c ch hw => ?_⟩⟩
  · obtain ⟨links, clocks, time, cells, store, params, generation, siteCount, zones⟩ := s.withParams_kept z p
    obtain ⟨-, -, -, -, -, portS, -⟩ := id links
    refine ⟨(s.endWrite true).withParams z p, congrArg Host.Outcome.next
      (State.commandWriteEnd_done (apply := zoneApply) (f := fun s => s.withParams z p) hw rfl portS),
      links, clocks, time, cells, store, params, State.withParams_rollUp _ z p, generation, siteCount, zones,
      fun i b life kind zone hb changed => ?_, fun i away => ?_, ?_⟩
    · obtain ⟨on, became, -⟩ := s.withParams_dev z p i
      rw [if_pos ⟨changed, life, kind, zone⟩] at became
      obtain ⟨baseline, supervised, other⟩ := Device.limitedTo_of_baseline (limit := 16 * p.compLimit)
        (d := { s.dev i with outstanding := on }) hb
      rw [became]
      exact ⟨baseline, supervised, other⟩
    · obtain ⟨on, -, stays⟩ := s.withParams_dev z p i
      rw [stays away]
      exact ⟨rfl, rfl⟩
    · intro old limit limited dirty within tells first c second expired
      have records : ∀ d : Device, within d = if d.limits z old.params p then d.limitedTo limit else d := fun d => by
        simp only [within, Device.limitedTo, Device.dirtyAt]
        cases d.smoke.baseline with
        | none => exact (ite_self _).symm
        | some b => rfl
      have told : ∀ i, tells i =
          if (s.dev i).limits z old.params p then (s.dev i).limitEvents i limit else [] := fun i => by
        simp only [tells, Device.limitEvents]
        cases (s.dev i).smoke.baseline with
        | none => exact (ite_self _).symm
        | some b => exact ite_and _ _ _ _
      have events : (s.endWrite true).limitEvents z p = allDevs.flatMap tells := List.flatMap_congr fun i _ => by
        obtain ⟨on, same⟩ := s.endWrite_dev true i
        rw [told, same, s.endWrite_zone]
        rfl
      have hfirst : first = (s.endWrite true).limited z p := by
        rw [State.limited, events, s.endWrite_zone]
        simp only [first, records]
        rfl
      have hsecond : second = ((s.endWrite true).limited z p).recompute z := by
        rw [State.recompute_limited, ← hfirst, s.endWrite_zone, s.endWrite_runClock]
      have inForce : (second.zone z).params = p := by
        rw [hsecond, (State.zoneOnly_recompute _ z).params, State.limited_zone, if_pos rfl]
      have kept : (second.zone z).generation = old.generation := by
        rw [hsecond, (State.zoneOnly_recompute _ z).generation, State.limited_zone, if_pos rfl, s.endWrite_zone]
      have taken : (second.zone z).cond = c := by rw [hsecond, State.recompute_cond, ← hfirst]
      have clock : second.runClock = s.runClock := by
        obtain ⟨-, ⟨now, -, -⟩, -⟩ := (s.endWrite true).limited_kept z p
        rw [hsecond, State.recompute_runClock, now, s.endWrite_runClock]
      have ranOut : second.windowExpired z = true ↔ expired := by
        rw [State.windowExpired_iff, inForce, taken, clock]
      rw [State.withParams_eq, ← hsecond]
      refine ⟨fun h => if_neg (mt ranOut.mp h), fun i h counted latched single => ?_⟩
      rw [if_pos (ranOut.mpr h), State.lapse_single counted latched single, State.lapsed, kept]
  · refine congrArg Host.Outcome.next ((State.commandWriteEnd_done (apply := siteApply) (f := fun s => s.withSite p)
      hw rfl ?_).trans ?_)
    · simp [State.withSite]
    · have lower : ∀ n : Nat, min n p.missLimit = if p.missLimit < n then p.missLimit else n := fun n => by
        by_cases h : p.missLimit < n
        · rw [if_pos h, min_eq_right h.le]
        · rw [if_neg h, min_eq_left (not_lt.mp h)]
      simp only [State.withSite, lower]
  · refine congrArg Host.Outcome.next ((State.commandWriteEnd_done (apply := channelApply)
      (f := fun s => s.modCell c fun r => { r with channel := ch }) hw rfl (s.endWrite_portS true)).trans ?_)
    rw [State.modCell_eq, s.endWrite_cell]

end Sys2Proof.Machine

/-! ## The Unsupervised law, entry by entry (R53) -/

namespace Sys2Proof.Machine

variable {s t u : State} {d e : Device}

/-- The entry at index i obeys R53: while it owns its slot, it holds Unsupervised exactly when its home cell is Off,
Failed or Absent. -/
def State.supervised (s : State) (i : DevIx) : Prop :=
  (s.dev i).life.owns = true →
    ((s.dev i).faults.unsupervised = true ↔
      (s.cell (homeCell i)).state = .off ∨ (s.cell (homeCell i)).state = .failed ∨
        (s.cell (homeCell i)).state = .absent)

theorem State.supervisionSound_iff : s.supervisionSound ↔ ∀ i, s.supervised i := .rfl

/-- A record brought into line with its home cell obeys R53. -/
theorem State.supervised_of_aligned {i : DevIx} (h : t.dev i = d.alignedTo (t.cell (homeCell i))) : t.supervised i := by
  intro owns
  rw [h, Device.alignedTo] at *
  split
  · exact decide_eq_true_iff
  · next ho => rw [if_neg ho] at owns; exact absurd owns ho

/-- A record that replaces another without coming to own its slot or changing its Unsupervised cause. -/
def Device.heldAs (d e : Device) : Prop :=
  e.life.owns = true → d.life.owns = true ∧ e.faults.unsupervised = d.faults.unsupervised

theorem Device.heldAs_of_eq (hl : e.life = d.life) (hf : e.faults = d.faults) : d.heldAs e :=
  fun owns => ⟨hl ▸ owns, by rw [hf]⟩

theorem Device.heldAs_refl (d : Device) : d.heldAs d := Device.heldAs_of_eq rfl rfl

/-- An entry that leaves its owning states, or has not reached one, is under no law. -/
theorem Device.heldAs_of_not_owns (h : e.life.owns = false) : d.heldAs e := fun owns => by simp [h] at owns

theorem Device.alike.owns_eq (h : d.alike e) : e.life.owns = d.life.owns :=
  Bool.eq_iff_iff.mpr (by
    rw [Life.owns_iff, Life.owns_iff]; exact and_congr (not_congr h.vacant) (not_congr h.enrolling))

theorem Device.alike.heldAs (h : d.alike e) (hf : e.faults.unsupervised = d.faults.unsupervised) : d.heldAs e :=
  fun owns => ⟨h.owns_eq ▸ owns, hf⟩

/-- A step that leaves every entry obeying R53 that did. -/
def State.keepsSupervision (s t : State) : Prop := ∀ i, s.supervised i → t.supervised i

theorem State.keepsSupervision_refl (s : State) : s.keepsSupervision s := fun _ => id

theorem State.keepsSupervision.trans (h : s.keepsSupervision t) (h' : t.keepsSupervision u) : s.keepsSupervision u :=
  fun i => h' i ∘ h i

/-- The law of an entry is one of its record and of the state of its home cell. -/
theorem State.supervised_of_heldAs {i : DevIx} (hd : (s.dev i).heldAs (t.dev i))
    (hc : (t.cell (homeCell i)).state = (s.cell (homeCell i)).state) (hs : s.supervised i) : t.supervised i := by
  intro owns
  obtain ⟨owned, same⟩ := hd owns
  rw [same, hc]
  exact hs owned

theorem State.keepsSupervision_of_heldAs (hd : ∀ i, (s.dev i).heldAs (t.dev i))
    (hc : ∀ c, (t.cell c).state = (s.cell c).state) : s.keepsSupervision t :=
  fun i => State.supervised_of_heldAs (hd i) (hc _)

/-- A step that leaves the records and the cells. -/
theorem State.keepsSupervision_of_eq (h : t.roster = s.roster ∧ t.cells = s.cells) : s.keepsSupervision t :=
  State.keepsSupervision_of_heldAs (fun i => by simp only [State.dev, h.1]; exact Device.heldAs_refl _)
    (fun c => by simp only [State.cell, h.2])

theorem State.keepsSupervision_setDev {i : DevIx} (h : (s.dev i).heldAs d) : s.keepsSupervision (s.setDev i d) :=
  State.keepsSupervision_of_heldAs (fun k => by
    rw [State.dev_setDev]
    split
    · next e => subst e; exact h
    · exact Device.heldAs_refl _) fun _ => rfl

theorem State.keepsSupervision_mapDevs {f : DevIx → Device → Device} (h : ∀ i, (s.dev i).heldAs (f i (s.dev i))) :
    s.keepsSupervision (s.mapDevs f) :=
  State.keepsSupervision_of_heldAs (fun i => by simpa using h i) fun _ => by simp

/-- A new record of a cell in the state it was in. -/
theorem State.keepsSupervision_setCell {c : CellIx} {r : Cell} (h : r.state = (s.cell c).state := by rfl) :
    s.keepsSupervision (s.setCell c r) :=
  State.keepsSupervision_of_heldAs (fun _ => Device.heldAs_refl _) fun b => by
    rw [State.cell_setCell]
    split
    · next e => rw [h, e]
    · rfl

theorem State.keepsSupervision_create (s : State) (b : EventBody) : s.keepsSupervision (s.create b) :=
  State.keepsSupervision_of_eq (by simp)

theorem State.keepsSupervision_createAll (s : State) (bs : List EventBody) : s.keepsSupervision (s.createAll bs) :=
  State.keepsSupervision_of_eq (by simp)

theorem State.keepsSupervision_setZone (s : State) (z : ZoneIx) (r : Zone) : s.keepsSupervision (s.setZone z r) :=
  State.keepsSupervision_of_eq ⟨rfl, rfl⟩

theorem State.keepsSupervision_recompute (s : State) (z : ZoneIx) : s.keepsSupervision (s.recompute z) :=
  State.keepsSupervision_of_eq (by simp)

theorem State.keepsSupervision_beginLatch (s : State) (i : DevIx) (a b : Nat) :
    s.keepsSupervision (s.beginLatch i a b) :=
  State.keepsSupervision_of_eq (by simp)

theorem State.keepsSupervision_foldl {α : Type} {f : State → α → State}
    (h : ∀ (u : State) a, u.keepsSupervision (f u a)) (l : List α) (s : State) :
    s.keepsSupervision (l.foldl f s) := by
  induction l generalizing s with
  | nil => exact s.keepsSupervision_refl
  | cons a l ih => exact (h s a).trans (ih (f s a))

theorem State.keepsSupervision_ite {p : Prop} [Decidable p] (ht : p → s.keepsSupervision t)
    (hu : ¬p → s.keepsSupervision u) : s.keepsSupervision (if p then t else u) := by
  split
  · next h => exact ht h
  · next h => exact hu h

/-- Where supervision brings an entry into line, R53 holds of it, whatever held before (R52, R53). -/
theorem State.supervised_alignUnsupervised (s : State) (i : DevIx) : (s.alignUnsupervised i).supervised i := by
  rw [State.alignUnsupervised_step]
  exact State.supervised_of_aligned (d := s.dev i) (by simp)

theorem State.keepsSupervision_alignUnsupervised (s : State) (i : DevIx) :
    s.keepsSupervision (s.alignUnsupervised i) := by
  intro k hk
  by_cases e : k = i
  · rw [e]
    exact s.supervised_alignUnsupervised i
  · rw [State.alignUnsupervised_step]
    refine State.supervised_of_heldAs ?_ (by simp) hk
    rw [State.createAll_dev, s.dev_setDev_ne _ e]
    exact Device.heldAs_refl _

/-- A change that only the entry at index i may suffer from, once that entry has been brought into line. -/
theorem State.keepsSupervision_of_alignUnsupervised {i : DevIx} (h : ∀ k, k ≠ i → s.supervised k → t.supervised k) :
    s.keepsSupervision (t.alignUnsupervised i) := by
  intro k hk
  by_cases e : k = i
  · rw [e]
    exact t.supervised_alignUnsupervised i
  · exact t.keepsSupervision_alignUnsupervised i k (h k e hk)

/-- A cell's new record with its entries brought into line (R52). -/
theorem State.keepsSupervision_cellStateChanged (s : State) (c : CellIx) (r : Cell) :
    s.keepsSupervision ((s.setCell c r).cellStateChanged c) := by
  have aligned := (s.setCell c r).realigned_cell c
  have cell : ∀ b, ((s.setCell c r).cellStateChanged c).cell b = (s.setCell c r).cell b := fun b => by
    rw [State.cell, aligned.cells]
    rfl
  intro i hi
  have dev := aligned.devs i
  by_cases home : homeCell i = c
  · rw [if_pos (mem_homedIn.mpr home), ← cell] at dev
    exact State.supervised_of_aligned dev
  · rw [if_neg (mt mem_homedIn.mp home)] at dev
    refine State.supervised_of_heldAs ?_ ?_ hi
    · rw [dev]
      exact Device.heldAs_refl _
    · rw [cell, State.cell_setCell, if_neg home]

end Sys2Proof.Machine

/-! ## The Unsupervised cause through evaluations, latches and frames -/

namespace Sys2Proof.Machine

variable {s t u : State} {d : Device} (e : Eval) (x : Setting)

/-- A cause put into or taken from a set leaves Unsupervised, when it is another one. -/
theorem FaultSet.put_unsupervised {c : Cause} (h : c ≠ .unsupervised) (f : FaultSet) (v : Bool) :
    (f.put c v).unsupervised = f.unsupervised := by
  cases c with
  | unsupervised => exact absurd rfl h
  | _ => rfl

theorem Eval.restore_keeps_unsupervised {c : Cause} (h : c ≠ .unsupervised) :
    (e.restore x c).d.faults.unsupervised = e.d.faults.unsupervised := by
  unfold Eval.restore
  split
  · exact FaultSet.put_unsupervised h _ _
  · rfl

theorem Eval.fail_keeps_unsupervised {c : Cause} (h : c ≠ .unsupervised) :
    (e.fail x c).d.faults.unsupervised = e.d.faults.unsupervised := by
  unfold Eval.fail
  split
  · rfl
  · exact FaultSet.put_unsupervised h _ _

theorem Eval.measurement_unsupervised (r : Byte) :
    (e.measurement x r).d.faults.unsupervised = e.d.faults.unsupervised :=
  ((Eval.restore_keeps_unsupervised _ x (by decide)).trans (Eval.restore_keeps_unsupervised _ x (by decide))).trans
    (Eval.restore_keeps_unsupervised _ x (by decide))

theorem Eval.contaminated_unsupervised (b limit : Nat) :
    (e.contaminated x b limit).d.faults.unsupervised = e.d.faults.unsupervised := by
  unfold Eval.contaminated
  split
  · exact e.fail_keeps_unsupervised x (by decide)
  · split
    · exact e.restore_keeps_unsupervised x (by decide)
    · rfl

theorem Eval.calibrate_unsupervised (v : Nat) :
    (e.calibrate x v).d.faults.unsupervised = e.d.faults.unsupervised := by
  unfold Eval.calibrate
  split
  · rfl
  · dsimp only
    split
    · rfl
    · split
      · exact Eval.fail_keeps_unsupervised _ x (by decide)
      · rfl

theorem Eval.drift_unsupervised (before : Device) (v : Nat) :
    (e.drift x before v).d.faults.unsupervised = e.d.faults.unsupervised := by
  unfold Eval.drift
  split
  · rfl
  · split
    · exact Eval.contaminated_unsupervised _ x _ _
    · rfl

/-- The threshold and latch stages leave the fault set (R78 to R86). -/
theorem Eval.enterPreAlarm_faults (level : Nat) : (e.enterPreAlarm x level).d.faults = e.d.faults := by
  unfold Eval.enterPreAlarm
  dsimp only
  rw [apply_ite (fun y : Eval => y.d.faults)]
  exact ite_self _

theorem Eval.smokeDecide_faults (a : Nat) : (e.smokeDecide x a).d.faults = e.d.faults := by
  have thresholds : (e.thresholds x a).d.faults = e.d.faults := by
    unfold Eval.thresholds
    split
    · split
      · exact e.enterPreAlarm_faults x a
      · rfl
    · split <;> rfl
    · rfl
  simp only [Eval.smokeDecide]
  split <;> exact thresholds

theorem Eval.smoke_unsupervised (v : Nat) : (e.smoke x v).d.faults.unsupervised = e.d.faults.unsupervised := by
  simp only [Eval.smoke]
  split
  · exact e.calibrate_unsupervised x v
  · rw [Eval.smokeDecide_faults, Eval.drift_unsupervised, Eval.calibrate_unsupervised]

theorem Eval.heat_faults (v : Nat) : (e.heat x v).d.faults = e.d.faults := by
  have preAlarm : ((e.heated x v).heatPreAlarm x v).d.faults = e.d.faults := by
    unfold Eval.heatPreAlarm
    dsimp only
    split
    · split
      · exact Eval.enterPreAlarm_faults _ x v
      · rfl
    · split <;> rfl
    · rfl
  rw [Eval.heat_eq]
  split
  · rfl
  · split <;> exact preAlarm

theorem Eval.callPoint_faults (v : Nat) : (e.callPoint v).d.faults = e.d.faults := by
  simp only [Eval.callPoint]
  split <;> rfl

theorem faultOf_ne_unsupervised {r : Byte} {c : Cause} (h : faultOf r = some c) : c ≠ .unsupervised := by
  unfold faultOf at h
  split at h <;> cases h <;> decide

/-- An evaluation leaves Unsupervised, which is supervision's alone (R52, R53). -/
theorem evaluation_unsupervised (d : Device) (r : Byte) :
    (evaluation x d r).d.faults.unsupervised = d.faults.unsupervised := by
  simp only [evaluation]
  split
  · rfl
  · split
    · next h => exact FaultSet.put_unsupervised (faultOf_ne_unsupervised h) _ _
    · split
      · rfl
      · split
        · exact (Eval.smoke_unsupervised _ x _).trans (Eval.measurement_unsupervised _ x r)
        · exact (congrArg _ (Eval.heat_faults _ x _)).trans (Eval.measurement_unsupervised _ x r)
        · exact (congrArg _ (Eval.callPoint_faults _ _)).trans (Eval.measurement_unsupervised _ x r)
        · rfl

theorem evaluation_heldAs (d : Device) (r : Byte) : d.heldAs (evaluation x d r).d :=
  (evaluation_alike x d r).heldAs (evaluation_unsupervised x d r)

/-- An accepted frame leaves Unsupervised too (R47, R64). -/
theorem frameTaken_heldAs (d : Device) (f : Sample) (arrival : Fin 8192) : d.heldAs (frameTaken x d f arrival).d := by
  refine (frameTaken_alike x d f arrival).heldAs ?_
  by_cases h : d.lastSeq = some f.seq
  · rw [frameTaken_repeat h]
    rfl
  · rw [frameTaken_new h]
    rfl

theorem Device.verifCleared_faults (d : Device) : d.verifCleared.faults = d.faults := by
  unfold Device.verifCleared
  split <;> rfl

theorem Device.latchCleared_heldAs (d : Device) : d.heldAs d.latchCleared :=
  d.latchCleared_alike.heldAs (congrArg _ d.verifCleared_faults)

theorem Device.verifCleared_heldAs (d : Device) : d.heldAs d.verifCleared :=
  d.verifCleared_alike.heldAs (congrArg _ d.verifCleared_faults)

theorem Device.resetCleared_heldAs (d : Device) : d.heldAs d.resetCleared := by
  unfold Device.resetCleared
  split
  · exact d.latchCleared_heldAs
  · exact d.verifCleared_heldAs

theorem State.keepsSupervision_mapMembers (s : State) (z : ZoneIx) {f : Device → Device}
    (hf : ∀ d : Device, d.heldAs (f d)) : s.keepsSupervision (s.mapMembers z f) :=
  State.keepsSupervision_mapDevs fun i => by
    split
    · exact hf _
    · exact Device.heldAs_refl _

/-- What an evaluation hands to the Zone Table clears a latch of its entry at most (R98). -/
theorem State.handsOver.keepsSupervision {i : DevIx} (h : s.handsOver t i) : s.keepsSupervision t := by
  refine State.keepsSupervision_of_heldAs (fun k => ?_) fun c => by rw [State.cell, h.cells]; rfl
  by_cases e : k = i
  · rw [e]
    rcases h.self with same | cleared
    · rw [same]
      exact Device.heldAs_refl _
    · rw [cleared]
      exact Device.latchCleared_heldAs _
  · rw [h.others k e]
    exact Device.heldAs_refl _

theorem State.keepsSupervision_evaluate (s : State) (i : DevIx) (r : Byte) : s.keepsSupervision (s.evaluate i r) := by
  rw [State.evaluate_eq]
  exact ((State.keepsSupervision_setDev (evaluation_heldAs _ _ _)).trans (State.keepsSupervision_createAll _ _)).trans
    (State.handsOver_handed _ i _ _ _).keepsSupervision

theorem State.keepsSupervision_acceptFrame (s : State) (i : DevIx) (f : Sample) (arrival : Fin 8192) :
    s.keepsSupervision (s.acceptFrame i f arrival) := by
  have taken := (State.keepsSupervision_setDev (frameTaken_heldAs (s.setting i) (s.dev i) f arrival)).trans
    (State.keepsSupervision_createAll _ (frameTaken (s.setting i) (s.dev i) f arrival).events)
  exact State.keepsSupervision_ite (fun _ => taken) fun _ => taken.trans (State.keepsSupervision_evaluate _ _ _)

/-- A slot close moves an entry between owning states at most (R48, R49, R57). -/
theorem closed_heldAs (i : DevIx) (limit : Nat) (lost : Bool) (d : Device) : d.heldAs (closed i limit lost d).d := by
  unfold closed
  split
  · exact Device.heldAs_of_eq rfl rfl
  · split
    · next h =>
      dsimp only
      split
      · exact fun _ => ⟨by rcases h with h | h <;> rw [h] <;> rfl, rfl⟩
      · exact Device.heldAs_of_eq rfl rfl
    · exact Device.heldAs_refl _

theorem State.keepsSupervision_slotClose (s : State) (i : DevIx) : s.keepsSupervision (s.slotClose i) := by
  refine (State.keepsSupervision_setDev ?_).trans (State.keepsSupervision_createAll _ _)
  exact fun owns => closed_heldAs i s.site.missLimit (s.relayLost (s.dev i)) (s.dev i) owns

theorem State.keepsSupervision_deviceCounted (s : State) (i : DevIx) : s.keepsSupervision (s.deviceCounted i) :=
  State.keepsSupervision_ite
    (fun _ => (State.keepsSupervision_ite (fun _ => s.keepsSupervision_beginLatch i _ _)
      (fun _ => s.keepsSupervision_refl)).trans (State.keepsSupervision_recompute _ _))
    (fun _ => s.keepsSupervision_refl)

theorem State.keepsSupervision_membersCounted (s : State) (z : ZoneIx) (ixs : List DevIx) :
    s.keepsSupervision (s.membersCounted z ixs) :=
  (State.keepsSupervision_foldl (fun u i => u.keepsSupervision_beginLatch i _ _) _ s).trans
    (State.keepsSupervision_recompute _ _)

theorem State.keepsSupervision_lapse (s : State) (z : ZoneIx) : s.keepsSupervision (s.lapse z) := by
  unfold State.lapse
  split
  · exact s.keepsSupervision_recompute z
  · next i _ =>
    have cleared : ∀ c : Cond, (s.dev i).heldAs { (s.dev i).latchCleared with cond := c } :=
      fun c => (s.dev i).latchCleared_heldAs
    exact ((State.keepsSupervision_setDev (cleared _)).trans (State.keepsSupervision_create _ _)).trans
      (State.keepsSupervision_recompute _ _)

end Sys2Proof.Machine

/-! ## The store, copies and downlinks keep the Unsupervised law -/

namespace Sys2Proof.Machine

variable {s t u : State} {d : Device}

/-! ### The store -/

theorem State.keepsSupervision_markOutstanding (s : State) (ixs : List DevIx) (v : Bool) :
    s.keepsSupervision (s.markOutstanding ixs v) :=
  State.keepsSupervision_mapDevs fun i => by
    split
    · exact Device.heldAs_of_eq rfl rfl
    · exact Device.heldAs_refl _

theorem State.keepsSupervision_requestWrite (s : State) (j : WriteJob) : s.keepsSupervision (s.requestWrite j) :=
  State.keepsSupervision_of_eq (by simp)

theorem State.keepsSupervision_requestRoster (s : State) (ixs : List DevIx) :
    s.keepsSupervision (s.requestRoster ixs) := by
  rcases s.requestRoster_cases ixs with ⟨-, e⟩ | ⟨-, e⟩ | ⟨-, e⟩
  · rw [e]; exact s.keepsSupervision_refl
  · rw [e]; exact s.keepsSupervision_requestWrite _
  · rw [e]; exact s.keepsSupervision_markOutstanding ixs true

theorem State.keepsSupervision_startWaiting (s : State) : s.keepsSupervision s.startWaiting := by
  unfold State.startWaiting
  split
  · exact State.keepsSupervision_of_eq ⟨rfl, rfl⟩
  · exact s.keepsSupervision_refl

theorem State.keepsSupervision_endWrite (s : State) (v : Bool) : s.keepsSupervision (s.endWrite v) :=
  State.keepsSupervision_of_heldAs (fun i => by
    obtain ⟨on, e⟩ := s.endWrite_dev v i
    rw [e]
    exact Device.heldAs_of_eq rfl rfl) fun c => by simp [State.cell]

theorem State.keepsSupervision_rosterWriteEnd (s : State) (v : Bool) : s.keepsSupervision (s.rosterWriteEnd v) := by
  unfold State.rosterWriteEnd
  split
  · exact State.keepsSupervision_ite (fun _ => s.keepsSupervision_endWrite true)
      fun _ => (s.keepsSupervision_endWrite false).trans (State.keepsSupervision_markOutstanding _ _ _)
  · exact s.keepsSupervision_refl

theorem State.keepsSupervision_setPort (s : State) (l : Link) (p : Port) : s.keepsSupervision (s.setPort l p) :=
  State.keepsSupervision_of_eq (by simp)

theorem State.keepsSupervision_answer (s : State) (l : Link) (tag : Byte) (r : Reply) :
    s.keepsSupervision (s.answer l tag r) :=
  State.keepsSupervision_ite (fun _ => s.keepsSupervision_setPort _ _) fun _ => s.keepsSupervision_refl

theorem State.keepsSupervision_finishCommand (s : State) (r : Reply) : s.keepsSupervision (s.finishCommand r) := by
  unfold State.finishCommand
  split
  · exact s.keepsSupervision_refl
  · exact (s.keepsSupervision_setPort .S _).trans (State.keepsSupervision_answer _ _ _ _)

/-- The end of a command write whose working change keeps R53 (R152, R168). -/
theorem State.keepsSupervision_commandWriteEnd (s : State) (v : Bool) {apply : CommandWrite → Option (State → State)}
    (h : ∀ {w f}, apply w = some f → ∀ u : State, u.keepsSupervision (f u)) :
    s.keepsSupervision (s.commandWriteEnd v apply) := by
  rcases s.commandWriteEnd_cases v apply with e | ⟨a, w, f, -, -, hf, e | e⟩
  · rw [e]; exact s.keepsSupervision_refl
  · rw [e]
    exact ((s.keepsSupervision_endWrite true).trans (h hf _)).trans (State.keepsSupervision_finishCommand _ _)
  · rw [e]; exact (s.keepsSupervision_endWrite false).trans (State.keepsSupervision_finishCommand _ _)

/-! ### Copies (R33 to R37) -/

theorem State.keepsSupervision_atTick (s : State) (k : Fin 8192) : s.keepsSupervision (s.atTick k) :=
  State.keepsSupervision_of_eq ⟨rfl, rfl⟩

theorem State.keepsSupervision_handFrame (s : State) (c : CellIx) (i : DevIx) (via : SlotKind) (f : Sample)
    (x : Copy) : s.keepsSupervision (s.handFrame c i via f x) := by
  have learned : s.keepsSupervision (s.modDev i fun d => { d with routes := d.routes.learn f.path x.level.val }) :=
    State.keepsSupervision_setDev (Device.heldAs_of_eq rfl rfl)
  exact State.keepsSupervision_ite (fun _ => learned) fun _ =>
    (learned.trans State.keepsSupervision_setCell).trans (State.keepsSupervision_acceptFrame _ _ _ _)

theorem State.keepsSupervision_reportMarks (s : State) (c : CellIx) (i : DevIx) (via : SlotKind) :
    s.keepsSupervision (s.reportMarks c i via) := by
  have marked : s.keepsSupervision (match s.time.slot with
      | some h => s.setSlot c h .heard
      | none => s) := by
    split
    · exact State.keepsSupervision_setCell
    · exact s.keepsSupervision_refl
  cases via with
  | home => exact marked.trans (State.keepsSupervision_setDev (Device.heldAs_of_eq rfl rfl))
  | shadow => exact marked

theorem State.keepsSupervision_countUnmatched (s : State) (c : CellIx) : s.keepsSupervision (s.countUnmatched c) :=
  State.keepsSupervision_setCell

theorem State.keepsSupervision_handEnrol (s : State) (c : CellIx) (identity : BitVec 24) (kind : Byte) (p : Path) :
    s.keepsSupervision (s.handEnrol c identity kind p) := by
  have counted := s.keepsSupervision_countUnmatched c
  have claimed : ∀ (u : State) (g : Option DevIx), u.keepsSupervision (if (s.cell c).claim.isNone then
      u.modCell c fun r => { r with claim := some { identity := identity, kind := kind, path := p, grant := g } }
      else u) :=
    fun u g => State.keepsSupervision_ite (fun _ => State.keepsSupervision_setCell)
      fun _ => u.keepsSupervision_refl
  simp only [State.handEnrol]
  split
  · split
    · split
      · split
        · exact State.keepsSupervision_setCell
        · exact (counted.trans State.keepsSupervision_setCell).trans (State.keepsSupervision_create _ _)
      · exact s.keepsSupervision_refl
    · exact counted.trans (claimed _ none)
  · exact counted.trans (claimed _ none)

theorem State.keepsSupervision_countOutcome (s : State) (c : CellIx) (o : CopyOutcome) :
    s.keepsSupervision (s.countOutcome c o) := by
  cases o with
  | accepted => exact s.keepsSupervision_refl
  | windowFailure => exact State.keepsSupervision_setCell
  | foreignIdentity => exact State.keepsSupervision_setCell
  | discarded => exact s.keepsSupervision_refl

theorem State.keepsSupervision_handCopy (s : State) (c : CellIx) (w : Uplink) (x : Copy) :
    s.keepsSupervision (s.handCopy c w x) := by
  cases w with
  | enrol identity kind p => exact s.keepsSupervision_handEnrol _ _ _ _
  | report f =>
    simp only [State.handCopy]
    split
    · next i via _ =>
      have handed := s.keepsSupervision_handFrame c i via f x
      exact State.keepsSupervision_ite (fun _ => handed)
        fun _ => handed.trans (State.keepsSupervision_reportMarks _ _ _ _)
    · exact s.keepsSupervision_refl
  | alarm f =>
    simp only [State.handCopy]
    split
    · exact s.keepsSupervision_handFrame _ _ _ _ _
    · exact s.keepsSupervision_refl

theorem State.keepsSupervision_examine (s : State) (c : CellIx) (w : Uplink) (x : Copy) :
    s.keepsSupervision (s.examine c w x) :=
  (State.keepsSupervision_ite (fun _ => s.keepsSupervision_handCopy c w x)
    (fun _ => s.keepsSupervision_countOutcome c _)).trans State.keepsSupervision_setCell

theorem State.keepsSupervision_receiveCopy (s : State) (c : CellIx) (x : Copy) :
    s.keepsSupervision (s.receiveCopy c x) := by
  have ticked := s.keepsSupervision_atTick x.taken
  simp only [State.receiveCopy]
  split
  · exact ticked
  · split
    · exact ticked.trans State.keepsSupervision_setCell
    · split
      · exact ticked.trans State.keepsSupervision_setCell
      · split
        · exact ticked
        · exact ticked.trans (State.keepsSupervision_examine _ _ _ _)

/-! ### Downlinks (R9, R10, R38) -/

theorem State.keepsSupervision_transmit (s : State) (c : CellIx) (k : Fin 12) (tick : Fin 8192) (bytes : List Byte) :
    s.keepsSupervision (s.transmit c k tick bytes) := State.keepsSupervision_setCell

theorem State.keepsSupervision_acknowledge (s : State) (c : CellIx) (f : FrameEntry) :
    s.keepsSupervision (s.acknowledge c f) :=
  State.keepsSupervision_ite
    (fun _ => (s.keepsSupervision_transmit c _ _ _).trans
      (State.keepsSupervision_setDev (Device.heldAs_of_eq rfl rfl)))
    (fun _ => s.keepsSupervision_refl)

/-- A grant makes an entry an owning one and brings it into line with its home cell (R9, R53). -/
theorem State.keepsSupervision_granted (s : State) (c : CellIx) (i : DevIx) : s.keepsSupervision (s.granted c i) := by
  refine State.keepsSupervision_of_alignUnsupervised fun k hk hs => ?_
  have unharmed : (s.setDev i
      { s.dev i with life := .calibrating, granted := true, deadline := none }).supervised k := by
    refine State.supervised_of_heldAs (s := s) ?_ rfl hs
    rw [s.dev_setDev_ne _ hk]
    exact Device.heldAs_refl _
  exact ((State.keepsSupervision_requestRoster _ _).trans (State.keepsSupervision_create _ _)).trans
    State.keepsSupervision_setCell k unharmed

theorem State.keepsSupervision_grantDownlink (s : State) (c : CellIx) (q : Claim) :
    s.keepsSupervision (s.grantDownlink c q) := by
  unfold State.grantDownlink
  split
  · exact s.keepsSupervision_refl
  · exact State.keepsSupervision_ite
      (fun _ => (s.keepsSupervision_transmit c _ _ _).trans (State.keepsSupervision_ite
        (fun _ => State.keepsSupervision_granted _ _ _) fun _ => State.keepsSupervision_refl _))
      fun _ => s.keepsSupervision_countUnmatched c

theorem State.keepsSupervision_assemble (s : State) (c : CellIx) : s.keepsSupervision (s.assemble c) := by
  have assembled : s.keepsSupervision ((s.atTick assemblyTick).modCell c fun r => { r with assembled := true }) :=
    (s.keepsSupervision_atTick _).trans State.keepsSupervision_setCell
  have acknowledged : ∀ t : State, s.keepsSupervision t → s.keepsSupervision (match (t.cell c).frames with
      | f :: _ => t.acknowledge c f
      | [] => t) := by
    intro t kept
    split
    · exact kept.trans (State.keepsSupervision_acknowledge _ _ _)
    · exact kept
  simp only [State.assemble]
  split
  · exact s.keepsSupervision_refl
  · split
    · split
      · exact assembled.trans (State.keepsSupervision_grantDownlink _ _ _)
      · exact assembled
    · exact acknowledged _ assembled
    · exact acknowledged _ assembled
    · exact assembled

end Sys2Proof.Machine

/-! ## Cells, boundaries and start-up keep the Unsupervised law -/

namespace Sys2Proof.Machine

variable {s t u : State} {d : Device}

theorem State.keepsSupervision_confirm (s : State) (c : CellIx) (x : TxName) : s.keepsSupervision (s.confirm c x) :=
  State.keepsSupervision_ite (fun _ => s.keepsSupervision_refl) fun _ =>
    State.keepsSupervision_ite (fun _ => s.keepsSupervision_cellStateChanged c _)
      (fun _ => State.keepsSupervision_setCell)

theorem State.keepsSupervision_endSuperframe (s : State) (c : CellIx) : s.keepsSupervision (s.endSuperframe c) := by
  rw [State.endSuperframe_eq]
  exact State.keepsSupervision_ite (fun h => State.keepsSupervision_setCell h)
    fun _ => s.keepsSupervision_cellStateChanged c _

theorem State.keepsSupervision_requestBeacon (s : State) (c : CellIx) : s.keepsSupervision (s.requestBeacon c) := by
  rw [State.requestBeacon_eq, State.beaconed_kept]
  exact State.keepsSupervision_setCell

theorem State.keepsSupervision_superframeBoundary (s : State) : s.keepsSupervision s.superframeBoundary :=
  (State.keepsSupervision_foldl State.keepsSupervision_endSuperframe _ s).trans
    (State.keepsSupervision_foldl State.keepsSupervision_requestBeacon _ _)

theorem State.keepsSupervision_closeSlot (s : State) (c : CellIx) (h : Slot) :
    s.keepsSupervision (s.closeSlot c h) := by
  have marked : s.keepsSupervision (if (s.cell c).slots[h] = .expecting then s.setSlot c h .missed else s) :=
    State.keepsSupervision_ite (fun _ => State.keepsSupervision_setCell) fun _ => s.keepsSupervision_refl
  exact State.keepsSupervision_ite (fun _ => s.keepsSupervision_refl) fun _ =>
    State.keepsSupervision_ite (fun _ => marked.trans (State.keepsSupervision_slotClose _ _)) fun _ => marked

theorem State.keepsSupervision_endInterval (s : State) : s.keepsSupervision s.endInterval := by
  have closed : s.keepsSupervision (match s.time.slot with
      | some h => allCells.foldl (fun (u : State) c => u.closeSlot c h) s
      | none => s) := by
    split
    · exact State.keepsSupervision_foldl (fun u c => u.keepsSupervision_closeSlot c _) _ s
    · exact s.keepsSupervision_refl
  refine (closed.trans (State.keepsSupervision_foldl (f := fun u c => u.modCell c Cell.newInterval)
    (fun u c => State.keepsSupervision_setCell) allCells _)).trans ?_
  exact State.keepsSupervision_of_eq ⟨rfl, rfl⟩

/-- A transfer takes the record to another home cell, and brings it into line there (R19, R53). -/
theorem State.keepsSupervision_transfer (s : State) (i j : DevIx) : s.keepsSupervision (s.transfer i j) := by
  rw [State.transfer_eq]
  refine State.keepsSupervision_of_alignUnsupervised fun k hk hs => ?_
  have unharmed : (s.relocated i j).supervised k := by
    refine State.supervised_of_heldAs (s := s) ?_ rfl hs
    rw [State.relocated_dev, if_neg hk]
    split
    · exact Device.heldAs_of_not_owns rfl
    · exact Device.heldAs_refl _
  exact ((State.keepsSupervision_requestRoster _ _).trans (State.keepsSupervision_create _ _)) k unharmed

theorem State.keepsSupervision_transferAnnounced (s : State) (i : DevIx) :
    s.keepsSupervision (s.transferAnnounced i) := by
  unfold State.transferAnnounced
  split
  · exact s.keepsSupervision_transfer i _
  · exact s.keepsSupervision_refl

theorem State.keepsSupervision_prepareSlots (s : State) (c : CellIx) : s.keepsSupervision (s.prepareSlots c) :=
  State.keepsSupervision_ite (fun _ => s.keepsSupervision_refl) fun _ => State.keepsSupervision_setCell

theorem State.keepsSupervision_cycleBoundary (s : State) : s.keepsSupervision s.cycleBoundary :=
  ((State.keepsSupervision_foldl State.keepsSupervision_transferAnnounced _ s).trans
    (State.keepsSupervision_ite (fun _ => State.keepsSupervision_requestRoster _ _)
      fun _ => State.keepsSupervision_refl _)).trans
    (State.keepsSupervision_foldl State.keepsSupervision_prepareSlots _ _)

/-- Start-up restores granted entries Calibrating, holding Unsupervised exactly where no transceiver answered, and the
cells Running or Absent accordingly (R53, R173). -/
theorem State.restoredFrom_supervised (s : State) (im : Image) (fitted : Vector Bool 4) (key : Bool) (i : DevIx) :
    (s.restoredFrom im fitted key).supervised i := by
  intro owns
  rw [State.restoredFrom_dev] at *
  rw [State.restoredFrom_cell]
  cases he : im.roster[i] with
  | none => rw [he] at owns; cases owns
  | some e =>
    rw [he] at owns
    have granted : e.granted = true := by
      by_contra h
      simp [restoredDevice, h, Life.owns] at owns
    cases hf : fitted[homeCell i] <;> simp [restoredDevice, granted]

theorem State.keepsSupervision_finishStartUp (s : State) (key : Bool) : s.keepsSupervision (s.finishStartUp key) := by
  unfold State.finishStartUp
  split
  · intro i _
    exact ((State.keepsSupervision_foldl State.keepsSupervision_prepareSlots _ _).trans
      (State.keepsSupervision_foldl State.keepsSupervision_requestBeacon _ _)) i (s.restoredFrom_supervised _ _ _ i)
  · exact s.keepsSupervision_refl
  · exact s.keepsSupervision_refl

end Sys2Proof.Machine

/-! ## Commissioning and timers keep the Unsupervised law -/

namespace Sys2Proof.Machine

variable {s t u : State} {d : Device}

theorem State.keepsSupervision_dropRelay (s : State) (i : DevIx) (p : Path) : s.keepsSupervision (s.dropRelay i p) :=
  State.keepsSupervision_mapDevs fun k => by
    split
    · exact Device.heldAs_refl _
    · exact Device.heldAs_of_eq rfl rfl

theorem State.keepsSupervision_vacate (s : State) (i : DevIx) : s.keepsSupervision (s.setDev i (s.dev i).vacated) :=
  State.keepsSupervision_setDev (Device.heldAs_of_not_owns rfl)

theorem State.keepsSupervision_removed (s : State) (i : DevIx) : s.keepsSupervision (s.removed i) :=
  State.keepsSupervision_ite
    (fun _ => ((s.keepsSupervision_vacate i).trans (State.keepsSupervision_dropRelay _ _ _)).trans
      (State.keepsSupervision_create _ _))
    (fun _ => ((s.keepsSupervision_vacate i).trans (State.keepsSupervision_create _ _)).trans
      (State.keepsSupervision_recompute _ _))

theorem State.keepsSupervision_removedWrite (s : State) (i : DevIx) (identity : BitVec 24) :
    s.keepsSupervision (s.removedWrite i identity) := by
  unfold State.removedWrite
  split
  · exact s.keepsSupervision_removed _
  · exact s.keepsSupervision_refl

theorem State.keepsSupervision_timeOut (s : State) (i : DevIx) : s.keepsSupervision (s.timeOut i) :=
  (((s.keepsSupervision_vacate i).trans (State.keepsSupervision_ite
    (fun _ => State.keepsSupervision_dropRelay _ _ _) fun _ => State.keepsSupervision_refl _)).trans
      (State.keepsSupervision_requestRoster _ _)).trans (State.keepsSupervision_create _ _)

theorem State.keepsSupervision_routesWrite (s : State) (i : DevIx) (identity : BitVec 24)
    (f : RoutePair → RoutePair) : s.keepsSupervision (s.routesWrite i identity f) := by
  unfold State.routesWrite
  split
  · exact s.keepsSupervision_refl
  · next j _ =>
    have routed : s.keepsSupervision (s.modDev j fun d => { d with routes := f d.routes }) :=
      State.keepsSupervision_setDev (Device.heldAs_of_eq rfl rfl)
    exact State.keepsSupervision_ite (fun _ => routed)
      fun _ => routed.trans (State.keepsSupervision_markOutstanding _ _ _)

theorem State.keepsSupervision_limitMember (s : State) (i : DevIx) : s.keepsSupervision (s.limitMember i) := by
  unfold State.limitMember
  split
  · exact s.keepsSupervision_refl
  · dsimp only
    split
    · refine (State.keepsSupervision_setDev ?_).trans (State.keepsSupervision_createAll _ _)
      exact (Eval.contaminated_alike (e := { d := { s.dev i with smoke := _ } })
        (Device.alike_of_eq rfl rfl rfl rfl rfl) _ _ _).heldAs (Eval.contaminated_unsupervised _ _ _ _)
    · exact State.keepsSupervision_setDev (Device.heldAs_of_eq rfl rfl)

theorem State.keepsSupervision_withParams (s : State) (z : ZoneIx) (p : ZoneParams) :
    s.keepsSupervision (s.withParams z p) := by
  have set := s.keepsSupervision_setZone z { s.zone z with params := p }
  have limited : s.keepsSupervision ((if p.compLimit = (s.zone z).params.compLimit then
      s.modZone z fun r => { r with params := p }
      else ((s.modZone z fun r => { r with params := p }).smokeMembers z).foldl State.limitMember
        (s.modZone z fun r => { r with params := p })).recompute z) :=
    (State.keepsSupervision_ite (fun _ => set)
      (fun _ => set.trans (State.keepsSupervision_foldl State.keepsSupervision_limitMember _ _))).trans
        (State.keepsSupervision_recompute _ _)
  exact State.keepsSupervision_ite (fun _ => limited.trans (State.keepsSupervision_lapse _ _)) (fun _ => limited)

theorem State.keepsSupervision_withSite (s : State) (p : SiteParams) : s.keepsSupervision (s.withSite p) :=
  State.keepsSupervision_mapDevs (s := { s with site := p }) fun _ => Device.heldAs_of_eq rfl rfl

/-- The working change of each command write keeps R53 (R8, R15, R31, R59, R60, R93, R159). -/
theorem enrolApply_keepsSupervision {w : CommandWrite} {f : State → State} (h : enrolApply w = some f) (u : State) :
    u.keepsSupervision (f u) := by
  unfold enrolApply at h
  split at h
  · cases h; exact State.keepsSupervision_setDev (Device.heldAs_of_not_owns rfl)
  · cases h

theorem removeApply_keepsSupervision {w : CommandWrite} {f : State → State} (h : removeApply w = some f)
    (u : State) : u.keepsSupervision (f u) := by
  unfold removeApply at h
  split at h
  · cases h; exact u.keepsSupervision_removedWrite _ _
  · cases h

theorem pinApply_keepsSupervision {w : CommandWrite} {f : State → State} (h : pinApply w = some f) (u : State) :
    u.keepsSupervision (f u) := by
  unfold pinApply at h
  split at h
  · cases h; exact u.keepsSupervision_routesWrite _ _ _
  · cases h

theorem unpinApply_keepsSupervision {w : CommandWrite} {f : State → State} (h : unpinApply w = some f) (u : State) :
    u.keepsSupervision (f u) := by
  unfold unpinApply at h
  split at h
  · cases h; exact u.keepsSupervision_routesWrite _ _ _
  · cases h

theorem zoneApply_keepsSupervision {w : CommandWrite} {f : State → State} (h : zoneApply w = some f) (u : State) :
    u.keepsSupervision (f u) := by
  unfold zoneApply at h
  split at h
  · cases h; exact u.keepsSupervision_withParams _ _
  · cases h

theorem siteApply_keepsSupervision {w : CommandWrite} {f : State → State} (h : siteApply w = some f) (u : State) :
    u.keepsSupervision (f u) := by
  unfold siteApply at h
  split at h
  · cases h; exact u.keepsSupervision_withSite _
  · cases h

theorem channelApply_keepsSupervision {w : CommandWrite} {f : State → State} (h : channelApply w = some f)
    (u : State) : u.keepsSupervision (f u) := by
  unfold channelApply at h
  split at h
  · cases h; exact State.keepsSupervision_setCell
  · cases h

end Sys2Proof.Machine

/-! ## Commands keep the Unsupervised law -/

namespace Sys2Proof.Machine

variable {s t u : State} {h : FrameHead} {ops : List Byte} {r : Reply}

theorem State.keepsSupervision_hunt (s : State) (l : Link) : s.keepsSupervision (s.hunt l) :=
  s.keepsSupervision_setPort l _

theorem State.keepsSupervision_taken (s : State) (h : FrameHead) : s.keepsSupervision (s.taken h) :=
  State.keepsSupervision_of_heldAs (fun i => by rw [State.taken_dev]; exact Device.heldAs_refl _)
    fun c => by rw [State.taken_cell]

theorem State.keepsSupervision_reply (s : State) (h : FrameHead) (r : Reply) : s.keepsSupervision (s.reply h r) :=
  s.keepsSupervision_answer h.link h.tag r

theorem State.keepsSupervision_refused (s : State) (h : FrameHead) (r : Reply) :
    s.keepsSupervision ((s.taken h).reply h r) :=
  (s.keepsSupervision_taken h).trans (State.keepsSupervision_reply _ h r)

/-- A command whose effect keeps R53, wherever it is carried out, keeps it. -/
theorem State.keepsSupervision_command {c : Command} {body : State → Except Reply (Reply × State)}
    (hb : ∀ {u t : State} {r}, body u = .ok (r, t) → u.keepsSupervision t) :
    s.keepsSupervision (s.command h c ops body) := by
  rcases s.command_cases h c ops body with e | e | ⟨r, e⟩ | ⟨-, r, t, hok, e⟩
  · rw [e]; exact s.keepsSupervision_refl
  · rw [e]; exact s.keepsSupervision_hunt _
  · rw [e]; exact s.keepsSupervision_refused h r
  · rw [e]; exact ((s.keepsSupervision_taken h).trans (hb hok)).trans (State.keepsSupervision_reply _ h r)

/-- A writing command changes nothing of the records and cells before its write ends (R152). -/
theorem State.keepsSupervision_writeCommand {c : Command} {body : State → Except Reply CommandWrite} :
    s.keepsSupervision (s.writeCommand h c ops body) := by
  rcases s.writeCommand_cases h c ops body with e | e | ⟨r, e⟩ | ⟨-, w, -, e⟩
  · rw [e]; exact s.keepsSupervision_refl
  · rw [e]; exact s.keepsSupervision_hunt _
  · rw [e]; exact s.keepsSupervision_refused h r
  · rw [e]
    exact ((s.keepsSupervision_taken h).trans (State.keepsSupervision_setPort _ _ _)).trans
      (State.keepsSupervision_requestWrite _ _)

/-! ### Queries and delivery -/

theorem answerQuery_keepsSupervision {v : Nat} {data : List Byte} (e : answerQuery s v data = .ok (r, t)) :
    s.keepsSupervision t := by
  cases e; exact s.keepsSupervision_refl

/-- A query checks its target and answers, nothing changed (R160). -/
theorem query_keepsSupervision {α : Type} {x : Except Reply α} {v : α → Nat} {data : α → List Byte}
    (e : (x >>= fun a => answerQuery s (v a) (data a)) = .ok (r, t)) : s.keepsSupervision t := by
  obtain ⟨a, -, e⟩ := bind_eq_ok_iff.mp e
  exact answerQuery_keepsSupervision e

theorem readDevice_keepsSupervision (e : readDevice ops s = .ok (r, t)) : s.keepsSupervision t := by
  unfold readDevice at e
  split at e
  · exact query_keepsSupervision e
  · cases e

theorem readZone_keepsSupervision (e : readZone ops s = .ok (r, t)) : s.keepsSupervision t := by
  unfold readZone at e
  split at e
  · exact query_keepsSupervision e
  · cases e

theorem readCell_keepsSupervision (e : readCell ops s = .ok (r, t)) : s.keepsSupervision t := by
  unfold readCell at e
  split at e
  · exact query_keepsSupervision e
  · cases e

theorem readRoute_keepsSupervision (e : readRoute ops s = .ok (r, t)) : s.keepsSupervision t := by
  unfold readRoute at e
  split at e
  · exact query_keepsSupervision e
  · cases e

theorem attach_keepsSupervision (e : attach h s = .ok (r, t)) : s.keepsSupervision t := by
  unfold attach at e
  split at e
  · cases e
  · split at e
    · cases e
    · cases e; exact State.keepsSupervision_of_eq (by simp)

theorem State.keepsSupervision_detachPanel (s : State) (p : Panel) (c : DetachCause) :
    s.keepsSupervision (s.detachPanel p c) := by
  have emptied : s.keepsSupervision { s.setPanel p { s.panel p with attached := false, credits := {}, lost := {} } with
      events := withoutPanel s.events p } := State.keepsSupervision_of_eq (by simp)
  exact State.keepsSupervision_ite (fun _ => emptied.trans (State.keepsSupervision_create _ _)) fun _ => emptied

theorem detach_keepsSupervision (e : detach h s = .ok (r, t)) : s.keepsSupervision t := by
  unfold detach at e
  split at e
  · cases e
  · split at e
    · cases e; exact s.keepsSupervision_detachPanel _ _
    · cases e

theorem fetchEvent_keepsSupervision (e : fetchEvent h s = .ok (r, t)) : s.keepsSupervision t := by
  unfold fetchEvent at e
  split at e
  · cases e
  · dsimp only at e
    split at e
    · cases e
    · split at e
      · split at e
        · cases e
        · cases e; exact State.keepsSupervision_of_eq (by simp)
      · split at e
        · cases e
        · cases e; exact State.keepsSupervision_of_eq (by simp)

/-! ### Operator commands -/

theorem State.keepsSupervision_setZone_create (s : State) (z : ZoneIx) (x : Zone) (b : EventBody) :
    s.keepsSupervision ((s.setZone z x).create b) :=
  (s.keepsSupervision_setZone z x).trans (State.keepsSupervision_create _ b)

theorem State.keepsSupervision_acknowledgeBy (s : State) (l : Link) (z : ZoneIx) :
    s.keepsSupervision (s.acknowledgeBy l z) := s.keepsSupervision_setZone_create z _ _

theorem acknowledgeZone_keepsSupervision (e : acknowledgeZone h ops s = .ok (r, t)) : s.keepsSupervision t := by
  unfold acknowledgeZone at e
  split at e
  · simp only [bind_eq_ok_iff] at e
    obtain ⟨z, -, -, -, -, -, -, -, e⟩ := e
    split at e
    · cases e
    · cases e; exact s.keepsSupervision_acknowledgeBy _ _
  · cases e

theorem acknowledgeAll_keepsSupervision (e : acknowledgeAll h ops s = .ok (r, t)) : s.keepsSupervision t := by
  unfold acknowledgeAll at e
  split at e
  · simp only [bind_eq_ok_iff] at e
    obtain ⟨-, -, -, -, e⟩ := e
    split at e
    · cases e
    · cases e; exact State.keepsSupervision_foldl (fun u z => u.keepsSupervision_acknowledgeBy _ z) _ s
  · cases e

theorem State.keepsSupervision_resetBy (s : State) (l : Link) (z : ZoneIx) : s.keepsSupervision (s.resetBy l z) :=
  ((s.keepsSupervision_mapMembers z Device.resetCleared_heldAs).trans (State.keepsSupervision_create _ _)).trans
    (State.keepsSupervision_recompute _ _)

theorem resetZone_keepsSupervision (e : resetZone h ops s = .ok (r, t)) : s.keepsSupervision t := by
  unfold resetZone at e
  split at e
  · simp only [bind_eq_ok_iff] at e
    obtain ⟨z, -, -, -, -, -, -, -, -, -, e⟩ := e
    cases e; exact s.keepsSupervision_resetBy _ _
  · cases e

theorem resetAll_keepsSupervision (e : resetAll h ops s = .ok (r, t)) : s.keepsSupervision t := by
  unfold resetAll at e
  split at e
  · simp only [bind_eq_ok_iff] at e
    obtain ⟨-, -, -, -, e⟩ := e
    split at e
    · cases e
    · split at e
      · cases e
      · cases e; exact State.keepsSupervision_foldl (fun u z => u.keepsSupervision_resetBy _ z) _ s
  · cases e

theorem State.keepsSupervision_firstDisable (s : State) (l : Link) (i : DevIx) :
    s.keepsSupervision (s.firstDisable l i) := by
  have disabled : s.keepsSupervision ((s.modDev i fun d =>
      let d' := { d with disabled := d.disabled.add l }
      if d.cond = .fireLatched then d' else d'.verifCleared).create (.deviceDisabled i l)) := by
    refine (State.keepsSupervision_setDev ?_).trans (State.keepsSupervision_create _ _)
    dsimp only
    split
    · exact Device.heldAs_of_eq rfl rfl
    · exact Device.verifCleared_heldAs { s.dev i with disabled := (s.dev i).disabled.add l }
  exact State.keepsSupervision_ite (fun _ => disabled.trans (State.keepsSupervision_recompute _ _)) fun _ => disabled

theorem disableDevice_keepsSupervision (e : disableDevice h ops s = .ok (r, t)) : s.keepsSupervision t := by
  unfold disableDevice at e
  split at e
  · obtain ⟨i, -, e⟩ := bind_eq_ok_iff.mp e
    dsimp only at e
    split at e
    · cases e
    · split at e
      · cases e; exact s.keepsSupervision_firstDisable _ _
      · cases e; exact State.keepsSupervision_setDev (Device.heldAs_of_eq rfl rfl)
  · cases e

theorem enableDevice_keepsSupervision (e : enableDevice h ops s = .ok (r, t)) : s.keepsSupervision t := by
  unfold enableDevice at e
  split at e
  · obtain ⟨i, -, e⟩ := bind_eq_ok_iff.mp e
    have enabled : s.keepsSupervision (s.modDev i fun d => { d with disabled := d.disabled.remove h.link }) :=
      State.keepsSupervision_setDev (Device.heldAs_of_eq rfl rfl)
    dsimp only at e
    split at e
    · cases e
    · split at e
      · cases e
        exact (enabled.trans (State.keepsSupervision_create _ _)).trans (State.keepsSupervision_deviceCounted _ _)
      · cases e; exact enabled
  · cases e

theorem State.keepsSupervision_firstDisableZone (s : State) (l : Link) (z : ZoneIx) :
    s.keepsSupervision (s.firstDisableZone l z) := by
  have disabled := (s.keepsSupervision_setZone z
    { s.zone z with disabled := (s.zone z).disabled.add l, test := none }).trans
      (State.keepsSupervision_create _ (.zoneDisabled z l))
  refine State.keepsSupervision.trans (State.keepsSupervision.trans ?_
    (State.keepsSupervision_mapMembers _ z fun d => ?_)) (State.keepsSupervision_recompute _ _)
  · split
    · exact disabled.trans (State.keepsSupervision_create _ _)
    · exact disabled
  · split
    · exact d.heldAs_refl
    · exact d.verifCleared_heldAs

theorem disableZone_keepsSupervision (e : disableZone h ops s = .ok (r, t)) : s.keepsSupervision t := by
  unfold disableZone at e
  split at e
  · simp only [bind_eq_ok_iff] at e
    obtain ⟨z, -, -, -, e⟩ := e
    split at e
    · cases e
    · split at e
      · cases e; exact s.keepsSupervision_firstDisableZone _ _
      · cases e; exact s.keepsSupervision_setZone _ _
  · cases e

theorem enableZone_keepsSupervision (e : enableZone h ops s = .ok (r, t)) : s.keepsSupervision t := by
  unfold enableZone at e
  split at e
  · simp only [bind_eq_ok_iff] at e
    obtain ⟨z, -, -, -, e⟩ := e
    split at e
    · cases e
    · split at e
      · cases e
        exact (s.keepsSupervision_setZone_create _ _ _).trans (State.keepsSupervision_membersCounted _ _ _)
      · cases e; exact s.keepsSupervision_setZone _ _
  · cases e

theorem State.keepsSupervision_withZones (s : State) (zs : Vector Zone 32) :
    s.keepsSupervision { s with zones := zs } := State.keepsSupervision_of_eq ⟨rfl, rfl⟩

theorem clearDisablements_keepsSupervision (e : clearDisablements s = .ok (r, t)) : s.keepsSupervision t := by
  have cleared : s.keepsSupervision (s.mapDevs fun _ d => { d with disabled := {} }) :=
    State.keepsSupervision_mapDevs fun _ => Device.heldAs_of_eq rfl rfl
  have enabled : s.keepsSupervision { s.mapDevs fun _ d => { d with disabled := {} } with
      zones := Vector.ofFn fun z => { s.zone z with disabled := {} } } :=
    cleared.trans (State.keepsSupervision_withZones _ _)
  simp only [clearDisablements] at e
  split at e
  · cases e
  · cases e
    exact ((enabled.trans (State.keepsSupervision_createAll _ _)).trans (State.keepsSupervision_createAll _ _)).trans
      (State.keepsSupervision_foldl (fun u z => u.keepsSupervision_membersCounted z _) _ _)

theorem startTest_keepsSupervision (e : startTest h ops s = .ok (r, t)) : s.keepsSupervision t := by
  unfold startTest at e
  split at e
  · simp only [bind_eq_ok_iff] at e
    obtain ⟨z, -, -, -, -, -, e⟩ := e
    split at e
    · cases e
      exact (((s.keepsSupervision_setZone z _).trans
        (State.keepsSupervision_mapMembers _ z Device.resetCleared_heldAs)).trans
          (State.keepsSupervision_create _ _)).trans (State.keepsSupervision_recompute _ _)
    · split at e
      · cases e
      · split at e
        · cases e; exact s.keepsSupervision_setZone _ _
        · cases e
  · cases e

theorem State.keepsSupervision_endTestOf (s : State) (z : ZoneIx) (l : Link) (c : TestEnd) :
    s.keepsSupervision (s.endTestOf z l c) :=
  (s.keepsSupervision_setZone_create z _ _).trans (State.keepsSupervision_recompute _ _)

theorem endTest_keepsSupervision (e : endTest h ops s = .ok (r, t)) : s.keepsSupervision t := by
  unfold endTest at e
  split at e
  · simp only [bind_eq_ok_iff] at e
    obtain ⟨z, -, -, -, e⟩ := e
    split at e
    · cases e
    · split at e
      · cases e
      · cases e; exact s.keepsSupervision_endTestOf _ _ _
  · cases e

theorem selectProfile_keepsSupervision (e : selectProfile h ops s = .ok (r, t)) : s.keepsSupervision t := by
  unfold selectProfile at e
  split at e
  · simp only [bind_eq_ok_iff] at e
    obtain ⟨z, -, -, -, e⟩ := e
    split at e
    · cases e
    · split at e
      · cases e
      · cases e; exact s.keepsSupervision_setZone_create _ _ _
    · cases e; exact s.keepsSupervision_setZone_create _ _ _
  · cases e

theorem setTime_keepsSupervision (e : setTime h ops s = .ok (r, t)) : s.keepsSupervision t := by
  unfold setTime at e
  split at e
  · obtain ⟨-, -, e⟩ := bind_eq_ok_iff.mp e
    cases e
    exact State.keepsSupervision_of_eq ⟨rfl, rfl⟩
  · cases e

theorem clearCellStatistics_keepsSupervision (e : clearCellStatistics ops s = .ok (r, t)) : s.keepsSupervision t := by
  unfold clearCellStatistics at e
  split at e
  · simp only [bind_eq_ok_iff] at e
    obtain ⟨c, -, -, -, e⟩ := e
    split at e
    · cases e
    · cases e; exact State.keepsSupervision_setCell
  · cases e

/-! ### Commissioning and service commands -/

theorem moveDevice_keepsSupervision (e : moveDevice ops s = .ok (r, t)) : s.keepsSupervision t := by
  obtain ⟨i, j, -, -, -, -, rfl⟩ := moveDevice_ok e
  exact State.keepsSupervision_setDev (Device.heldAs_of_eq rfl rfl)

theorem State.keepsSupervision_cancelled (s : State) (i : DevIx) (m : Move) : s.keepsSupervision (s.cancelled i m) := by
  unfold State.cancelled
  split
  · exact State.keepsSupervision_setDev (Device.heldAs_of_eq rfl rfl)
  · have shadowed : s.keepsSupervision (s.modDev i fun d => { d with move := none, shadow := some m.target }) :=
      State.keepsSupervision_setDev (Device.heldAs_of_eq rfl rfl)
    exact shadowed.trans State.keepsSupervision_setCell

theorem cancelMove_keepsSupervision (e : cancelMove ops s = .ok (r, t)) : s.keepsSupervision t := by
  unfold cancelMove at e
  split at e
  · simp only [bind_eq_ok_iff] at e
    obtain ⟨i, -, -, -, e⟩ := e
    split at e
    · cases e
    · cases e; exact s.keepsSupervision_cancelled _ _
  · cases e

/-- A cell whose state changes without a change of supervision: it was and stays operating, or was and stays Off, Failed
or Absent (R27, R53). -/
theorem State.keepsSupervision_setCell_of_operating {c : CellIx} {x : Cell}
    (h : x.state.operating = (s.cell c).state.operating) : s.keepsSupervision (s.setCell c x) := by
  intro i hi owns
  have down := hi owns
  rw [State.setCell_dev, State.cell_setCell]
  split
  · next home =>
    rw [home] at down
    rwa [CellState.operating_eq_not, CellState.operating_eq_not, Bool.not_inj_iff, decide_eq_decide, ← down,
      Iff.comm] at h
  · exact down

/-- Stop Cell takes a Running cell to Stopping, and a Failed one to Off: neither changes supervision (R29, R52). -/
theorem stopCell_keepsSupervision (e : stopCell ops s = .ok (r, t)) : s.keepsSupervision t := by
  unfold stopCell at e
  split at e
  · simp only [bind_eq_ok_iff] at e
    obtain ⟨c, -, -, -, e⟩ := e
    split at e
    · next hs => cases e; exact State.keepsSupervision_setCell_of_operating (by rw [hs]; rfl)
    · cases e
    · split at e
      · cases e; exact State.keepsSupervision_setCell
      · cases e
    · next hs => cases e; exact State.keepsSupervision_setCell_of_operating (by rw [hs]; rfl)
    · cases e
  · cases e

/-- Start Cell takes a Stopping cell to Running, and leaves the start of an Off one to its boundary (R30, R32). -/
theorem startCell_keepsSupervision (e : startCell ops s = .ok (r, t)) : s.keepsSupervision t := by
  unfold startCell at e
  split at e
  · simp only [bind_eq_ok_iff] at e
    obtain ⟨c, -, -, -, e⟩ := e
    split at e
    · split at e
      · cases e
      · cases e; exact State.keepsSupervision_setCell
    · next hs => cases e; exact State.keepsSupervision_setCell_of_operating (by rw [hs]; rfl)
    · cases e
    · cases e
    · cases e
  · cases e

theorem restart_keepsSupervision (e : restart h s = .ok (r, t)) : s.keepsSupervision t := by
  cases e
  exact State.keepsSupervision_of_eq (by simp)

end Sys2Proof.Machine

/-! ## Every step keeps the Unsupervised law -/

namespace Sys2Proof.Machine

variable {s t u : State} {h : FrameHead} {ops : List Byte}

theorem State.keepsSupervision_whenRunning {f : State → State} (hf : s.keepsSupervision (f s)) :
    s.keepsSupervision (s.whenRunning f) :=
  State.keepsSupervision_ite (fun _ => hf) fun _ => s.keepsSupervision_refl

/-- A taken frame of any command keeps R53. -/
theorem takeCommand_keepsSupervision (c : Command) (e : takeCommand c h ops s = .next t) : s.keepsSupervision t := by
  cases c with
  | readStatus => cases e; exact State.keepsSupervision_command answerQuery_keepsSupervision
  | readDevice => cases e; exact State.keepsSupervision_command readDevice_keepsSupervision
  | readZone => cases e; exact State.keepsSupervision_command readZone_keepsSupervision
  | readCell => cases e; exact State.keepsSupervision_command readCell_keepsSupervision
  | readRoute => cases e; exact State.keepsSupervision_command readRoute_keepsSupervision
  | readIdentity => cases e; exact State.keepsSupervision_command answerQuery_keepsSupervision
  | attach => cases e; exact State.keepsSupervision_command attach_keepsSupervision
  | detach => cases e; exact State.keepsSupervision_command detach_keepsSupervision
  | fetchEvent => cases e; exact State.keepsSupervision_command fetchEvent_keepsSupervision
  | acknowledgeZone => cases e; exact State.keepsSupervision_command acknowledgeZone_keepsSupervision
  | resetZone => cases e; exact State.keepsSupervision_command resetZone_keepsSupervision
  | acknowledgeAll => cases e; exact State.keepsSupervision_command acknowledgeAll_keepsSupervision
  | resetAll => cases e; exact State.keepsSupervision_command resetAll_keepsSupervision
  | disableDevice => cases e; exact State.keepsSupervision_command disableDevice_keepsSupervision
  | enableDevice => cases e; exact State.keepsSupervision_command enableDevice_keepsSupervision
  | disableZone => cases e; exact State.keepsSupervision_command disableZone_keepsSupervision
  | enableZone => cases e; exact State.keepsSupervision_command enableZone_keepsSupervision
  | startTest => cases e; exact State.keepsSupervision_command startTest_keepsSupervision
  | endTest => cases e; exact State.keepsSupervision_command endTest_keepsSupervision
  | selectProfile => cases e; exact State.keepsSupervision_command selectProfile_keepsSupervision
  | setTime => cases e; exact State.keepsSupervision_command setTime_keepsSupervision
  | clearCellStatistics => cases e; exact State.keepsSupervision_command clearCellStatistics_keepsSupervision
  | moveDevice => cases e; exact State.keepsSupervision_command moveDevice_keepsSupervision
  | cancelMove => cases e; exact State.keepsSupervision_command cancelMove_keepsSupervision
  | stopCell => cases e; exact State.keepsSupervision_command stopCell_keepsSupervision
  | startCell => cases e; exact State.keepsSupervision_command startCell_keepsSupervision
  | clearDisablements => cases e; exact State.keepsSupervision_command clearDisablements_keepsSupervision
  | restart => cases e; exact State.keepsSupervision_command restart_keepsSupervision
  | enrolDevice => cases e; exact State.keepsSupervision_writeCommand
  | removeDevice => cases e; exact State.keepsSupervision_writeCommand
  | pinRoute => cases e; exact State.keepsSupervision_writeCommand
  | unpinRoute => cases e; exact State.keepsSupervision_writeCommand
  | setZoneParameters => cases e; exact State.keepsSupervision_writeCommand
  | setSiteParameters => cases e; exact State.keepsSupervision_writeCommand
  | setCellChannel => cases e; exact State.keepsSupervision_writeCommand

theorem takeFrame_keepsSupervision {code : Byte} (e : takeFrame h code ops s = .next t) : s.keepsSupervision t := by
  unfold takeFrame at e
  split at e
  · exact takeCommand_keepsSupervision _ e
  · cases e
    refine State.keepsSupervision_whenRunning ?_
    rcases s.onFrame_cases h fun s => s.reply h { result := .unknownCommand } with e | ⟨r, e⟩ | ⟨-, -, -, e⟩
    · rw [e]; exact s.keepsSupervision_hunt _
    · rw [e]; exact s.keepsSupervision_refused h r
    · rw [e]; exact s.keepsSupervision_refused h _

theorem byteReceived_keepsSupervision {l : Link} {key : Bool} {b : Byte} (e : byteReceived l key b s = .next t) :
    s.keepsSupervision t := by
  unfold byteReceived at e
  split at e
  · split at e
    · unfold takeBytes at e
      split at e
      · exact takeFrame_keepsSupervision e
      · cases e; exact s.keepsSupervision_hunt l
    · cases e; exact s.keepsSupervision_hunt l
  · cases e; exact s.keepsSupervision_setPort l _

/-- The end of a command write, running or not. -/
theorem State.keepsSupervision_writeEnd (s : State) (v : Bool) {apply : CommandWrite → Option (State → State)}
    (h : ∀ {w f}, apply w = some f → ∀ u : State, u.keepsSupervision (f u)) :
    s.keepsSupervision (s.whenRunning fun s => s.commandWriteEnd v apply) :=
  State.keepsSupervision_whenRunning (s.keepsSupervision_commandWriteEnd v h)

/-- Loss of power and the selection of an image leave the records and the cells as they are (R170, R171). -/
theorem State.keepsSupervision_hold (s : State) : s.keepsSupervision s.hold :=
  State.keepsSupervision_of_eq ⟨rfl, rfl⟩

theorem State.keepsSupervision_beginStartUp (s : State) : s.keepsSupervision s.beginStartUp :=
  State.keepsSupervision_of_eq ⟨rfl, rfl⟩

theorem State.keepsSupervision_probeAnswered (s : State) (c : CellIx) : s.keepsSupervision (s.probeAnswered c) := by
  unfold State.probeAnswered
  split
  · exact State.keepsSupervision_of_eq ⟨rfl, rfl⟩
  · exact s.keepsSupervision_refl
  · exact s.keepsSupervision_refl

theorem State.keepsSupervision_withTime (s : State) (x : Timebase) : s.keepsSupervision { s with time := x } :=
  State.keepsSupervision_of_eq ⟨rfl, rfl⟩

/-- Every command and event keeps R53. -/
theorem exec_keepsSupervision (c : Instr) (e : exec c s = .next t) : s.keepsSupervision t := by
  cases c with
  | readStatus h ops => exact takeCommand_keepsSupervision .readStatus e
  | readDevice h ops => exact takeCommand_keepsSupervision .readDevice e
  | readZone h ops => exact takeCommand_keepsSupervision .readZone e
  | readCell h ops => exact takeCommand_keepsSupervision .readCell e
  | readRoute h ops => exact takeCommand_keepsSupervision .readRoute e
  | readIdentity h ops => exact takeCommand_keepsSupervision .readIdentity e
  | attach h ops => exact takeCommand_keepsSupervision .attach e
  | detach h ops => exact takeCommand_keepsSupervision .detach e
  | fetchEvent h ops => exact takeCommand_keepsSupervision .fetchEvent e
  | acknowledgeZone h ops => exact takeCommand_keepsSupervision .acknowledgeZone e
  | resetZone h ops => exact takeCommand_keepsSupervision .resetZone e
  | acknowledgeAll h ops => exact takeCommand_keepsSupervision .acknowledgeAll e
  | resetAll h ops => exact takeCommand_keepsSupervision .resetAll e
  | disableDevice h ops => exact takeCommand_keepsSupervision .disableDevice e
  | enableDevice h ops => exact takeCommand_keepsSupervision .enableDevice e
  | disableZone h ops => exact takeCommand_keepsSupervision .disableZone e
  | enableZone h ops => exact takeCommand_keepsSupervision .enableZone e
  | startTest h ops => exact takeCommand_keepsSupervision .startTest e
  | endTest h ops => exact takeCommand_keepsSupervision .endTest e
  | selectProfile h ops => exact takeCommand_keepsSupervision .selectProfile e
  | setTime h ops => exact takeCommand_keepsSupervision .setTime e
  | clearCellStatistics h ops => exact takeCommand_keepsSupervision .clearCellStatistics e
  | enrolDevice h ops => exact takeCommand_keepsSupervision .enrolDevice e
  | removeDevice h ops => exact takeCommand_keepsSupervision .removeDevice e
  | moveDevice h ops => exact takeCommand_keepsSupervision .moveDevice e
  | cancelMove h ops => exact takeCommand_keepsSupervision .cancelMove e
  | pinRoute h ops => exact takeCommand_keepsSupervision .pinRoute e
  | unpinRoute h ops => exact takeCommand_keepsSupervision .unpinRoute e
  | setZoneParameters h ops => exact takeCommand_keepsSupervision .setZoneParameters e
  | setSiteParameters h ops => exact takeCommand_keepsSupervision .setSiteParameters e
  | setCellChannel h ops => exact takeCommand_keepsSupervision .setCellChannel e
  | stopCell h ops => exact takeCommand_keepsSupervision .stopCell e
  | startCell h ops => exact takeCommand_keepsSupervision .startCell e
  | clearDisablements h ops => exact takeCommand_keepsSupervision .clearDisablements e
  | restart h ops => exact takeCommand_keepsSupervision .restart e
  | unknownCommandFrame h code ops => exact takeFrame_keepsSupervision e
  | busyFrame h code ops => exact takeFrame_keepsSupervision e
  | enrolDeviceWriteEnd v => cases e; exact s.keepsSupervision_writeEnd v enrolApply_keepsSupervision
  | removeDeviceWriteEnd v => cases e; exact s.keepsSupervision_writeEnd v removeApply_keepsSupervision
  | pinRouteWriteEnd v => cases e; exact s.keepsSupervision_writeEnd v pinApply_keepsSupervision
  | unpinRouteWriteEnd v => cases e; exact s.keepsSupervision_writeEnd v unpinApply_keepsSupervision
  | setZoneParametersWriteEnd v => cases e; exact s.keepsSupervision_writeEnd v zoneApply_keepsSupervision
  | setSiteParametersWriteEnd v => cases e; exact s.keepsSupervision_writeEnd v siteApply_keepsSupervision
  | setCellChannelWriteEnd v => cases e; exact s.keepsSupervision_writeEnd v channelApply_keepsSupervision
  | frameCrcDiscard l => cases e; exact State.keepsSupervision_whenRunning (s.keepsSupervision_hunt l)
  | frameGapTimeout l => cases e; exact State.keepsSupervision_whenRunning (s.keepsSupervision_hunt l)
  | linkSilence p =>
    cases e
    exact State.keepsSupervision_whenRunning (State.keepsSupervision_ite
      (fun _ => s.keepsSupervision_detachPanel p .silence) fun _ => s.keepsSupervision_refl)
  | receivedCopy c x => cases e; exact State.keepsSupervision_whenRunning (s.keepsSupervision_receiveCopy c x)
  | downlinkAssembly c => cases e; exact State.keepsSupervision_whenRunning (s.keepsSupervision_assemble c)
  | transmitConfirm c x => cases e; exact State.keepsSupervision_whenRunning (s.keepsSupervision_confirm c x)
  | intervalEnd => cases e; exact State.keepsSupervision_whenRunning s.keepsSupervision_endInterval
  | superframeBoundary =>
    cases e
    exact State.keepsSupervision_whenRunning (State.keepsSupervision_ite
      (fun _ => (s.keepsSupervision_withTime _).trans (State.keepsSupervision_superframeBoundary _))
      fun _ => s.keepsSupervision_refl)
  | cycleBoundary =>
    cases e
    exact State.keepsSupervision_whenRunning (State.keepsSupervision_ite
      (fun _ => (s.keepsSupervision_withTime _).trans (State.keepsSupervision_cycleBoundary _))
      fun _ => s.keepsSupervision_refl)
  | enrolmentDeadline i =>
    cases e
    exact State.keepsSupervision_whenRunning (State.keepsSupervision_ite
      (fun _ => s.keepsSupervision_timeOut i) fun _ => s.keepsSupervision_refl)
  | corroborationLapse z =>
    cases e
    exact State.keepsSupervision_whenRunning (State.keepsSupervision_ite
      (fun _ => s.keepsSupervision_lapse z) fun _ => s.keepsSupervision_refl)
  | profileExpiry z =>
    cases e
    exact State.keepsSupervision_whenRunning (State.keepsSupervision_ite
      (fun _ => s.keepsSupervision_setZone_create z _ _) fun _ => s.keepsSupervision_refl)
  | testExpiry z =>
    cases e
    refine State.keepsSupervision_whenRunning ?_
    split
    · exact s.keepsSupervision_endTestOf _ _ _
    · exact s.keepsSupervision_refl
  | storeWriteStart => cases e; exact State.keepsSupervision_whenRunning s.keepsSupervision_startWaiting
  | rosterWriteEnd v => cases e; exact State.keepsSupervision_whenRunning (s.keepsSupervision_rosterWriteEnd v)
  | powerLossOrReset => cases e; exact s.keepsSupervision_hold
  | startUp =>
    cases e
    exact State.keepsSupervision_ite (fun _ => s.keepsSupervision_beginStartUp) fun _ => s.keepsSupervision_refl
  | restartStartUp =>
    cases e
    exact State.keepsSupervision_whenRunning (State.keepsSupervision_ite
      (fun _ => s.keepsSupervision_beginStartUp) fun _ => s.keepsSupervision_refl)
  | probeAnswer c => cases e; exact s.keepsSupervision_probeAnswered c
  | probeTimeout key => cases e; exact s.keepsSupervision_finishStartUp key
  | frameByteReceived l key b =>
    change execFrameByteReceived l key b s = .next t at e
    unfold execFrameByteReceived at e
    split at e
    · exact byteReceived_keepsSupervision e
    · cases e; exact s.keepsSupervision_refl
  | responseWhollySent l => cases e; exact State.keepsSupervision_whenRunning (s.keepsSupervision_setPort l _)

/-- Settles O59: the law is one of each entry and its home cell. A step leaves both, vacates the entry, or brings it
into line with its cell: after a change of the cell's operation, a grant and a transfer, and at start-up. -/
theorem stepKeepsSupervisionLaw : Obligations.StepKeepsSupervisionLaw := by
  intro s t hs e i
  refine (?_ : s.keepsSupervision t) i (hs i)
  unfold step at e
  split at e
  · cases e; exact s.keepsSupervision_refl
  · next c rest _ =>
    have unqueued : s.keepsSupervision { s with pending := rest } := State.keepsSupervision_of_eq ⟨rfl, rfl⟩
    exact unqueued.trans (exec_keepsSupervision c e)

end Sys2Proof.Machine

/-! ## Pin Route and Unpin Route (R59, R60) -/

namespace Sys2Proof.Machine

variable {s : State} {h : FrameHead} {b bp : Byte} {i : DevIx} {p : Path}

theorem State.routeChecks_bad_target (hb : 192 ≤ b.toNat) :
    s.routeChecks b bp = .error { result := .badTarget, value := b.toNat } := by
  simp only [State.routeChecks, deviceTarget_of_ge hb, error_bind]

theorem State.routeChecks_of_vacant (hb : b.toNat = i.val) (hv : (s.dev i).life = .vacant) :
    s.routeChecks b bp = .error { result := .vacantTarget } := by
  simp only [State.routeChecks, deviceTarget_of_eq hb, ok_bind, State.checkPresent]
  rw [check_of_not (by simp [hv]), error_bind]

/-- The checks that Pin Route and Unpin Route share, for an entry that is not Vacant (R59). -/
theorem State.routeChecks_of_present (hb : b.toNat = i.val) (hv : (s.dev i).life ≠ .vacant) :
    s.routeChecks b bp =
      if (s.dev i).life.owns then
        if lt : bp.toNat < 16 then .ok (i, ⟨bp.toNat, lt⟩) else .error { result := .badValue }
      else .error { result := .wrongState } := by
  simp only [State.routeChecks, deviceTarget_of_eq hb, ok_bind, State.checkPresent]
  rw [check_of (by simpa using hv), ok_bind]
  by_cases ho : (s.dev i).life.owns = true
  · rw [check_of ho, ok_bind, if_pos ho]; rfl
  · rw [check_of_not (eq_false_of_ne_true ho), error_bind, if_neg ho]

theorem State.routeChecks_of_enrolling (hb : b.toNat = i.val) (he : (s.dev i).life = .enrolling) :
    s.routeChecks b bp = .error { result := .wrongState } := by
  rw [State.routeChecks_of_present hb (by simp [he]), he]
  rfl

theorem State.routeChecks_of_owns (hb : b.toNat = i.val) (ho : (s.dev i).life.owns = true) :
    s.routeChecks b bp =
      if lt : bp.toNat < 16 then .ok (i, ⟨bp.toNat, lt⟩) else .error { result := .badValue } := by
  rw [State.routeChecks_of_present hb (Life.ne_vacant_of_owns ho), if_pos ho]

theorem State.routeChecks_bad_path (hb : b.toNat = i.val) (ho : (s.dev i).life.owns = true) (hp : 16 ≤ bp.toNat) :
    s.routeChecks b bp = .error { result := .badValue } := by
  rw [State.routeChecks_of_owns hb ho, dif_neg (by omega)]

theorem State.routeChecks_of_path (hb : b.toNat = i.val) (ho : (s.dev i).life.owns = true)
    (hp : bp.toNat = p.val) : s.routeChecks b bp = .ok (i, p) := by
  have lt : bp.toNat < 16 := hp ▸ p.isLt
  have path : (⟨bp.toNat, lt⟩ : Path) = p := Fin.ext hp
  rw [State.routeChecks_of_owns hb ho, dif_pos lt, path]

/-- A pin refused by the shared checks. -/
theorem pinRoute_of_error {r : Reply} (e : s.routeChecks b bp = .error r) : pinRoute [b, bp] s = .error r := by
  rw [pinRoute, e, error_bind]

theorem unpinRoute_of_error {r : Reply} (e : s.routeChecks b bp = .error r) : unpinRoute [b, bp] s = .error r := by
  rw [unpinRoute, e, error_bind]

/-- A path that a pin of the entry i may name: not its own relay number, and direct or some Repeater's (R59). -/
def State.pinnable (s : State) (i : DevIx) (p : Path) : Prop :=
  ¬((s.dev i).kind = .repeater ∧ (s.dev i).relay = p) ∧ (p = 0 ∨ s.relayUsed p = true)

/-- Pin Route after the shared checks, on a path that it may not name (R59). -/
theorem pinRoute_not_pinnable (e : s.routeChecks b bp = .ok (i, p)) (hp : ¬s.pinnable i p) :
    pinRoute [b, bp] s = .error { result := .badValue } := by
  simp only [pinRoute, e, ok_bind]
  by_cases own : (s.dev i).kind = .repeater ∧ (s.dev i).relay = p
  · rw [check_of_not (by simp [own]), error_bind]
  · have unknown : ¬(p = 0 ∨ s.relayUsed p = true) := fun known => hp ⟨own, known⟩
    rw [check_of (by simpa [-not_and, not_and_or] using own), ok_bind, check_of_not (by simpa using unknown),
      error_bind]

/-- Pin Route after the shared checks, on a path that it may name (R59). -/
theorem pinRoute_pinnable (e : s.routeChecks b bp = .ok (i, p)) (hp : s.pinnable i p) :
    pinRoute [b, bp] s =
      match (s.dev i).routes.find p with
      | some r => if r.pinned = true then .error { result := .noChange } else .ok (.pin i (s.dev i).identity p)
      | none =>
        if (s.dev i).routes.bothPinned = true then .error { result := .wrongState }
        else .ok (.pin i (s.dev i).identity p) := by
  obtain ⟨other, known⟩ := hp
  simp only [pinRoute, e, ok_bind]
  rw [check_of (by simpa [-not_and, not_and_or] using other), ok_bind, check_of (by simpa using known), ok_bind]
  cases (s.dev i).routes.find p with
  | some r => rfl
  | none => cases (s.dev i).routes.bothPinned <;> rfl

/-- Unpin Route after the shared checks (R60). -/
theorem unpinRoute_checked (e : s.routeChecks b bp = .ok (i, p)) :
    unpinRoute [b, bp] s =
      match (s.dev i).routes.find p with
      | none => .error { result := .wrongState }
      | some r => if r.pinned = true then .ok (.unpin i (s.dev i).identity p) else .error { result := .noChange } := by
  simp only [unpinRoute, e, ok_bind]
  cases (s.dev i).routes.find p <;> rfl

/-- A taken frame changes nothing that the checks of a route command read. -/
theorem State.taken_pinnable (s : State) (h : FrameHead) (i : DevIx) (p : Path) :
    (s.taken h).pinnable i p ↔ s.pinnable i p := by
  simp only [State.pinnable, State.taken_dev, State.taken_relayUsed]

/-- The paths that a pin may name, by their number (R59). -/
theorem State.pinnable_iff (hp : bp.toNat = p.val) : s.pinnable i p ↔
    ¬((s.dev i).kind = .repeater ∧ (s.dev i).relay.val = bp.toNat) ∧
      (bp.toNat = 0 ∨ ∃ k, (s.dev k).life ≠ .vacant ∧ (s.dev k).kind = .repeater ∧ (s.dev k).relay.val = bp.toNat) := by
  simp only [State.pinnable, State.relayUsed_iff, hp, Fin.ext_iff, Fin.val_zero]

/-- Settles O20: each clause reads one branch of the checks of R59 and R60, made on the state that the taken frame
leaves. -/
theorem pinAndUnpinDecided : Obligations.PinAndUnpinDecided := by
  intro s h b bp pinOut unpinOut
  have pinRefused : s.takes h .pinRoute → ∀ {r v}, pinRoute [b, bp] (s.taken h) = .error { result := r, value := v } →
      s.refuses h r v pinOut := fun ht _ _ e => State.writeCommand_refuses ht rfl e
  have unpinRefused : s.takes h .unpinRoute → ∀ {r v},
      unpinRoute [b, bp] (s.taken h) = .error { result := r, value := v } → s.refuses h r v unpinOut :=
    fun ht _ _ e => State.writeCommand_refuses ht rfl e
  refine ⟨fun ht hb => pinRefused ht (pinRoute_of_error (State.routeChecks_bad_target hb)),
    fun ht hb => unpinRefused ht (unpinRoute_of_error (State.routeChecks_bad_target hb)), fun i hb => ?_⟩
  have dev := s.taken_dev h i
  rw [← dev]
  intro d known
  constructor
  · intro ht
    refine ⟨fun hv => pinRefused ht (pinRoute_of_error (State.routeChecks_of_vacant hb hv)),
      fun he => pinRefused ht (pinRoute_of_error (State.routeChecks_of_enrolling hb he)),
      fun ho => ⟨fun bad => pinRefused ht ?_, fun p hp other known' => ?_⟩⟩
    · by_cases hp : 16 ≤ bp.toNat
      · exact pinRoute_of_error (State.routeChecks_bad_path hb ho hp)
      · have path : bp.toNat = (⟨bp.toNat, by omega⟩ : Path).val := rfl
        refine pinRoute_not_pinnable (State.routeChecks_of_path hb ho path) ?_
        rw [State.taken_pinnable, State.pinnable_iff path, ← dev]
        rintro ⟨other, known'⟩
        rcases bad with bad | own | unknown
        · exact hp bad
        · exact other own
        · exact unknown known'
    · have able : (s.taken h).pinnable i p := by
        rw [State.taken_pinnable, State.pinnable_iff hp, ← dev]
        exact ⟨fun own => other ⟨own.1, Fin.ext (own.2.trans hp)⟩, known'⟩
      have decided := pinRoute_pinnable (State.routeChecks_of_path hb ho hp) able
      have requested : pinRoute [b, bp] (s.taken h) = .ok (.pin i d.identity p) →
          s.writeRequested h .pinRoute (.pin i d.identity p) pinOut := fun e => State.writeCommand_requests ht rfl e
      cases hr : d.routes.find p with
      | some r => rw [hr] at decided; exact ite_of_eq_ite decided (pinRefused ht) requested
      | none => rw [hr] at decided; exact ite_of_eq_ite decided (pinRefused ht) requested
  · intro ht
    refine ⟨fun hv => unpinRefused ht (unpinRoute_of_error (State.routeChecks_of_vacant hb hv)),
      fun he => unpinRefused ht (unpinRoute_of_error (State.routeChecks_of_enrolling hb he)),
      fun ho => ⟨fun hp => unpinRefused ht (unpinRoute_of_error (State.routeChecks_bad_path hb ho hp)),
        fun p hp => ?_⟩⟩
    have decided := unpinRoute_checked (State.routeChecks_of_path hb ho hp)
    cases hr : d.routes.find p with
    | none => rw [hr] at decided; exact unpinRefused ht decided
    | some r =>
      rw [hr] at decided
      exact ite_of_eq_ite decided (fun e => State.writeCommand_requests ht rfl e) (unpinRefused ht)

end Sys2Proof.Machine

/-! ## Learning routes (R55, R56) -/

namespace Sys2Proof.Machine

variable {x : RoutePair} {p : Path} {a b r new : Route}

/-- A path is found at the first position that holds it, else at the second (R54). -/
theorem RoutePair.find_eq (x : RoutePair) (p : Path) :
    x.find p = (x.first.filter (·.path = p)).or (x.second.filter (·.path = p)) := by
  obtain ⟨first, second⟩ := x
  cases first with
  | none =>
    cases second with
    | none => rfl
    | some b => by_cases hb : b.path = p <;> simp [RoutePair.find, Option.filter, hb]
  | some a =>
    cases second with
    | none => by_cases ha : a.path = p <;> simp [RoutePair.find, Option.filter, ha]
    | some b => by_cases ha : a.path = p <;> by_cases hb : b.path = p <;> simp [RoutePair.find, Option.filter, ha, hb]

/-- A change of the entries of a path that leaves their path changes what is found there. -/
theorem RoutePair.find_update {f : Route → Route} (hf : ∀ r, (f r).path = r.path) (x : RoutePair) (p : Path) :
    (x.update p f).find p = (x.find p).map f := by
  have position : ∀ o : Option Route, ((o.map fun r => if r.path = p then f r else r).filter (·.path = p)) =
      (o.filter (·.path = p)).map f := by
    intro o
    cases o with
    | none => rfl
    | some r => by_cases hr : r.path = p <;> simp [Option.filter, hr, hf]
  rw [RoutePair.find_eq, RoutePair.find_eq, RoutePair.update, position, position, Option.map_or]

theorem RoutePair.learn_known (h : x.find p = some r) (level : Nat) :
    (x.learn p level).find p = some { r with
      quality := (3 * r.quality + level + 1) / 4, age := 0, delivered := true } := by
  rw [RoutePair.learn, if_pos (by rw [h]; rfl), RoutePair.find_update, h]
  · rfl
  · exact fun _ => rfl

theorem RoutePair.learn_new (h : x.find p = none) (level : Nat) :
    x.learn p level = x.place { path := p, quality := level, age := 0, delivered := true, pinned := false } := by
  rw [RoutePair.learn, if_neg (by rw [h]; nofun)]

/-- The first free position takes a new entry (R55). -/
theorem RoutePair.place_first (h : x.first = none) (new : Route) : x.place new = { x with first := some new } := by
  rw [RoutePair.place, h]

theorem RoutePair.place_second (ha : x.first ≠ none) (hb : x.second = none) (new : Route) :
    x.place new = { x with second := some new } := by
  obtain ⟨a, ha⟩ := Option.ne_none_iff_exists'.mp ha
  rw [RoutePair.place, ha, hb]

/-- Without a free position the entry that R56 names is replaced. -/
theorem RoutePair.place_full (ha : x.first = some a) (hb : x.second = some b) (new : Route) :
    x.place new = (replacesFirst a b).elim x fun first =>
      if first then { x with first := some new } else { x with second := some new } := by
  simp only [RoutePair.place, ha, hb]
  cases replacesFirst a b with
  | none => rfl
  | some first => cases first <;> rfl

/-- Of two unpinned entries the one of lower quality is replaced, then the older, then the second (R56). -/
theorem replacesFirst_unpinned (ha : a.pinned = false) (hb : b.pinned = false) : replacesFirst a b =
    some (decide (a.quality < b.quality ∨ (a.quality = b.quality ∧ b.age < a.age))) := by
  simp only [replacesFirst, ha, hb, Bool.false_eq_true, if_false]
  split
  · next h => simp [h]
  · next h => simp [not_not.mp h]

/-- Settles O48: a known path's entry is updated in its place; a new one goes where `place` puts it, by the free
positions and by which of two entries R56 replaces. -/
theorem routesLearnAndReplace : Obligations.RoutesLearnAndReplace := by
  intro x p level y new
  refine ⟨fun r h => RoutePair.learn_known h level, fun h => ?_⟩
  have learned : y = x.place new := RoutePair.learn_new h level
  rw [learned]
  refine ⟨fun ha => RoutePair.place_first ha new, fun ha hb => RoutePair.place_second ha hb new,
    fun a b ha hb => ?_⟩
  intro dropFirst
  rw [RoutePair.place_full ha hb]
  refine ⟨fun pa pb => ?_, fun pa pb => ?_, fun pa pb => ?_, fun pa pb => ?_⟩
  · rw [replacesFirst, if_pos pa, if_pos pb]; rfl
  · rw [replacesFirst, if_pos pa, if_neg (by simp [pb])]; rfl
  · rw [replacesFirst, if_neg (by simp [pa]), if_pos pb]; rfl
  · rw [replacesFirst_unpinned pa pb, Option.elim_some]
    exact if_congr decide_eq_true_iff rfl rfl

/-! ## The preferred path (R58) -/

theorem Route.preferredTo_iff : a.preferredTo b = true ↔ a.age < b.age ∨ (a.age = b.age ∧
    (b.quality < a.quality ∨ (a.quality = b.quality ∧ a.path ≤ b.path))) := by
  unfold Route.preferredTo
  by_cases age : a.age = b.age
  · by_cases quality : a.quality = b.quality
    · simp [age, quality]
    · simp [age, quality]
  · simp [age]

/-- Settles O49: of two entries the preferred one gives the path, of one its own, and of none direct. -/
theorem preferredPathOrder : Obligations.PreferredPathOrder := by
  intro a b better
  refine ⟨?_, rfl, rfl, rfl⟩
  rw [RoutePair.preferred]
  exact if_congr Route.preferredTo_iff rfl rfl

end Sys2Proof.Machine

/-! ## The decode of a reading (R68 to R70) -/

namespace Sys2Proof.Machine

variable (e : Eval) (x : Setting) {d : Device} {r : Byte} {c : Cause}

/-- The reading bytes that are measurements, and the values they are evaluated as (section 4.3). -/
theorem measured_eq_min (h : r.toNat ≤ 250 ∨ r.toNat = 254) : measured r = some (min 250 r.toNat) := by
  unfold measured
  split
  · next low => rw [min_eq_right low]
  · next high =>
    have top : r.toNat = 254 := h.resolve_left high
    rw [if_pos top, top]
    rfl

theorem measured_eq_none (h : 251 ≤ r.toNat) (h' : r.toNat ≠ 254) : measured r = none := by
  rw [measured, if_neg (by omega), if_neg h']

theorem faultOf_eq_some : faultOf r = some c ↔ (r.toNat = 251 ∧ c = .sensorFault) ∨
    (r.toNat = 252 ∧ c = .headRemoved) ∨ (r.toNat = 255 ∧ c = .selfTestFailed) := by
  unfold faultOf
  split
  · next h => simp [h, eq_comm]
  · next h => simp [h, eq_comm]
  · next h => simp [h, eq_comm]
  · next h₁ h₂ h₃ => simp [show r.toNat ≠ 251 from h₁, show r.toNat ≠ 252 from h₂, show r.toNat ≠ 255 from h₃]

theorem faultOf_eq_none (h : r.toNat ≠ 251) (h' : r.toNat ≠ 252) (h'' : r.toNat ≠ 255) : faultOf r = none := by
  cases hf : faultOf r with
  | none => rfl
  | some c =>
    rcases faultOf_eq_some.mp hf with ⟨hr, -⟩ | ⟨hr, -⟩ | ⟨hr, -⟩
    · exact absurd hr h
    · exact absurd hr h'
    · exact absurd hr h''

theorem faultOf_of_measurement (h : r.toNat ≤ 250 ∨ r.toNat = 254) : faultOf r = none :=
  faultOf_eq_none (by omega) (by omega) (by omega)

theorem FaultSet.put_of_has {v : Bool} {f : FaultSet} (h : f.has c = v) : f.put c v = f := by
  subst h
  cases c <;> rfl

/-- Removing a cause leaves it absent, with its event when it was present (R70). -/
theorem Eval.restore_d (c : Cause) : (e.restore x c).d = { e.d with faults := e.d.faults.put c false } := by
  unfold Eval.restore
  split
  · rfl
  · next h => rw [FaultSet.put_of_has (Bool.eq_false_iff.mpr h)]

theorem Eval.restore_events (c : Cause) : (e.restore x c).events =
    e.events ++ if e.d.faults.has c = true then [.deviceRestored x.i (.cause c)] else [] := by
  unfold Eval.restore
  split
  · rfl
  · exact (List.append_nil _).symm

/-- Adding a cause leaves it present, with its event when it was absent (R76). -/
theorem Eval.fail_d (c : Cause) : (e.fail x c).d = { e.d with faults := e.d.faults.put c true } := by
  unfold Eval.fail
  split
  · next h => rw [FaultSet.put_of_has h]
  · rfl

theorem Eval.fail_events (c : Cause) : (e.fail x c).events =
    e.events ++ if e.d.faults.has c = true then [] else [.deviceFault x.i c] := by
  unfold Eval.fail
  split
  · exact (List.append_nil _).symm
  · rfl

/-- The causes that a measurement removes, in their order (R70). -/
def readingCauses : List Cause := [.sensorFault, .headRemoved, .selfTestFailed]

/-- The evaluation of a record that has taken a measurement (R68, R70). -/
def Device.decoded (d : Device) (x : Setting) (r : Byte) : Eval := ({ d := d } : Eval).measurement x r

theorem Device.decoded_d (d : Device) (r : Byte) : (d.decoded x r).d = { d with
    lastReading := some (r, x.now)
    faults := { d.faults with sensorFault := false, headRemoved := false, selfTestFailed := false } } := by
  simp only [Device.decoded, Eval.measurement, Eval.restore_d]
  rfl

theorem Device.decoded_events (d : Device) (r : Byte) : (d.decoded x r).events =
    (readingCauses.filter d.faults.has).map fun c => .deviceRestored x.i (.cause c) := by
  have one : ∀ c : Cause, (List.filter d.faults.has [c]).map (fun c => EventBody.deviceRestored x.i (.cause c)) =
      if d.faults.has c = true then [.deviceRestored x.i (.cause c)] else [] := by
    intro c
    rw [List.filter_singleton]
    cases d.faults.has c with
    | true => rfl
    | false => rfl
  have each : readingCauses = ([.sensorFault] ++ [.headRemoved]) ++ [.selfTestFailed] := rfl
  rw [each, List.filter_append, List.filter_append, List.map_append, List.map_append, one, one, one]
  simp only [Device.decoded, Eval.measurement, Eval.restore_events, Eval.restore_d]
  rfl

/-! ### The evaluation by the reading byte and the kind (R67, R68) -/

theorem evaluation_of_fault (hk : d.kind ≠ .repeater) (h : faultOf r = some c) : evaluation x d r =
    { d := (({ d := d } : Eval).faultCode x r c).d, events := (({ d := d } : Eval).faultCode x r c).events
      latch := none } := by
  simp only [evaluation, if_neg hk, h]

theorem evaluation_of_ignored (hk : d.kind ≠ .repeater) (h : faultOf r = none) (hm : measured r = none) :
    evaluation x d r = { d := d, events := [], latch := none } := by
  simp only [evaluation, if_neg hk, h, hm]

theorem evaluation_smoke (hk : d.kind = .smoke) (h : r.toNat ≤ 250 ∨ r.toNat = 254) :
    evaluation x d r = (d.decoded x r).smoke x (min 250 r.toNat) := by
  simp only [evaluation, hk, reduceCtorEq, if_false, faultOf_of_measurement h, measured_eq_min h, Device.decoded]

theorem evaluation_heat (hk : d.kind = .heat) (h : r.toNat ≤ 250 ∨ r.toNat = 254) :
    evaluation x d r = (d.decoded x r).heat x (min 250 r.toNat) := by
  simp only [evaluation, hk, reduceCtorEq, if_false, faultOf_of_measurement h, measured_eq_min h, Device.decoded]

theorem evaluation_callPoint (hk : d.kind = .callPoint) (h : r.toNat ≤ 250 ∨ r.toNat = 254) :
    evaluation x d r = (d.decoded x r).callPoint (min 250 r.toNat) := by
  simp only [evaluation, hk, reduceCtorEq, if_false, faultOf_of_measurement h, measured_eq_min h, Device.decoded]

/-! ## The pre-alarm test (R78, R79, R84) -/

/-- The hold-off since the last PreAlarm event is over (R79). -/
def Setting.holdOffOver (x : Setting) (last : Option Nat) : Prop := ∀ t, last = some t → t + 4 * x.holdOff ≤ x.now

theorem Eval.enterPreAlarm_due (level : Nat) (h : x.holdOffOver e.d.lastPreAlarm) : e.enterPreAlarm x level =
    { d := { e.d with cond := .preAlarm, lastPreAlarm := some x.now }
      events := e.events ++ [.preAlarm x.i level] } := by
  cases hp : e.d.lastPreAlarm with
  | none => simp only [Eval.enterPreAlarm, hp, if_true]
  | some p => simp only [Eval.enterPreAlarm, hp, decide_eq_true (h p hp), if_true]

theorem Eval.enterPreAlarm_held (level : Nat) (h : ¬x.holdOffOver e.d.lastPreAlarm) :
    e.enterPreAlarm x level = { e with d := { e.d with cond := .preAlarm } } := by
  simp only [Setting.holdOffOver, not_forall] at h
  obtain ⟨p, hp, held⟩ := h
  simp [Eval.enterPreAlarm, hp, decide_eq_false held]

/-- The condition after a pre-alarm test, by whether the level enters PreAlarm and whether it leaves it. -/
def Cond.afterTest (c : Cond) (enter leave : Prop) [Decidable enter] [Decidable leave] : Cond :=
  match c with
  | .quiet => if enter then .preAlarm else .quiet
  | .preAlarm => if leave then .quiet else .preAlarm
  | .fireLatched => .fireLatched

section
variable (level : Nat) (enter leave : Prop) [Decidable enter] [Decidable leave]

/-- The threshold stage of a smoke record and the pre-alarm test of a heat record in one (R78, R84). -/
def Eval.preAlarmTest : Eval :=
  match e.d.cond with
  | .quiet => if enter then e.enterPreAlarm x level else e
  | .preAlarm => if leave then { e with d := { e.d with cond := .quiet } } else e
  | .fireLatched => e

theorem Eval.thresholds_eq (a : Nat) :
    e.thresholds x a = e.preAlarmTest x a (x.zone.tpre ≤ a) (a + 2 < x.zone.tpre) := rfl

theorem Eval.heatPreAlarm_eq (v : Nat) : e.heatPreAlarm x v = e.preAlarmTest x v
    ((x.zone.params.tfix : Int) - x.zone.params.preOffset ≤ (v : Int) - 40)
    ((v : Int) - 40 < (x.zone.params.tfix : Int) - x.zone.params.preOffset - 4) := rfl

/-- The test creates the PreAlarm event (R79). -/
def Eval.tells : Prop := e.d.cond = .quiet ∧ enter ∧ x.holdOffOver e.d.lastPreAlarm

theorem Eval.preAlarmTest_told (h : e.tells x enter) : e.preAlarmTest x level enter leave =
    { d := { e.d with cond := .preAlarm, lastPreAlarm := some x.now }
      events := e.events ++ [.preAlarm x.i level] } := by
  obtain ⟨quiet, enters, past⟩ := h
  simp only [Eval.preAlarmTest, quiet, if_pos enters, Eval.enterPreAlarm_due e x level past]

theorem Eval.preAlarmTest_silent (h : ¬e.tells x enter) : e.preAlarmTest x level enter leave =
    { e with d := { e.d with cond := e.d.cond.afterTest enter leave } } := by
  unfold Eval.preAlarmTest Cond.afterTest
  cases hc : e.d.cond with
  | quiet =>
    dsimp only
    split
    · next enters => exact e.enterPreAlarm_held x level fun past => h ⟨hc, enters, past⟩
    · rw [← hc]
  | preAlarm =>
    dsimp only
    split
    · rfl
    · rw [← hc]
  | fireLatched =>
    dsimp only
    rw [← hc]

theorem Eval.preAlarmTest_cond : (e.preAlarmTest x level enter leave).d.cond = e.d.cond.afterTest enter leave := by
  by_cases h : e.tells x enter
  · rw [e.preAlarmTest_told x level enter leave h, h.1]
    exact (if_pos h.2.1).symm
  · rw [e.preAlarmTest_silent x level enter leave h]

/-- The test changes the condition and the time of the last event alone, and creates no other event. -/
theorem Eval.preAlarmTest_frame : (e.preAlarmTest x level enter leave).d = { e.d with
      cond := (e.preAlarmTest x level enter leave).d.cond
      lastPreAlarm := (e.preAlarmTest x level enter leave).d.lastPreAlarm } ∧
    ∃ more, (e.preAlarmTest x level enter leave).events = e.events ++ more ∧ ∀ b ∈ more, b = .preAlarm x.i level := by
  by_cases h : e.tells x enter
  · rw [e.preAlarmTest_told x level enter leave h]
    exact ⟨rfl, _, rfl, fun b hb => List.mem_singleton.mp hb⟩
  · rw [e.preAlarmTest_silent x level enter leave h]
    exact ⟨rfl, [], (List.append_nil _).symm, nofun⟩

/-- The event once in a hold-off, in an evaluation that has created none before (R79). -/
theorem Eval.preAlarmTest_event (fresh : ∀ l, .preAlarm x.i l ∉ e.events) :
    (e.tells x enter → .preAlarm x.i level ∈ (e.preAlarmTest x level enter leave).events ∧
      (e.preAlarmTest x level enter leave).d.lastPreAlarm = some x.now) ∧
    (¬e.tells x enter → .preAlarm x.i level ∉ (e.preAlarmTest x level enter leave).events ∧
      (e.preAlarmTest x level enter leave).d.lastPreAlarm = e.d.lastPreAlarm) := by
  refine ⟨fun h => ?_, fun h => ?_⟩
  · rw [e.preAlarmTest_told x level enter leave h]
    exact ⟨List.mem_append_right _ (List.mem_singleton_self _), rfl⟩
  · rw [e.preAlarmTest_silent x level enter leave h]
    exact ⟨fresh level, rfl⟩

end

end Sys2Proof.Machine

/-! ## The smoke stages (R71 to R82) -/

namespace Sys2Proof.Machine

variable {e t : Eval} {x : Setting} {a b : Nat}

theorem clamp_zero (hi n : Nat) : clamp 0 hi n = min hi n := by simp [clamp]

/-! ### Calibration and drift (R71, R74 to R76) -/

/-- What calibration and drift tracking leave of a record, and the events they create. -/
structure Eval.tunes (e : Eval) (x : Setting) (t : Eval) : Prop where
  record : t.d = { e.d with
    life := t.d.life, smoke := t.d.smoke
    faults := { e.d.faults with contaminated := t.d.faults.contaminated } }
  events : ∃ more, t.events = e.events ++ more ∧
    ∀ b ∈ more, b = .deviceFault x.i .contaminated ∨ b = .deviceRestored x.i (.cause .contaminated)

theorem Eval.tunes_refl (e : Eval) (x : Setting) : e.tunes x e := ⟨rfl, [], (List.append_nil _).symm, nofun⟩

theorem Eval.tunes.trans {u : Eval} (h : e.tunes x t) (h' : t.tunes x u) : e.tunes x u := by
  obtain ⟨record, more, events, bodies⟩ := h
  obtain ⟨record', more', events', bodies'⟩ := h'
  refine ⟨?_, more ++ more', by rw [events', events, List.append_assoc], fun b hb => ?_⟩
  · rw [record] at record'
    exact record'
  · exact (List.mem_append.mp hb).elim (bodies b) (bodies' b)

theorem Eval.tunes_record (e : Eval) (x : Setting) (l : Life) (m : SmokeState) :
    e.tunes x { e with d := { e.d with life := l, smoke := m } } := ⟨rfl, [], (List.append_nil _).symm, nofun⟩

theorem Eval.tunes_fail (e : Eval) (x : Setting) : e.tunes x (e.fail x .contaminated) := by
  refine ⟨?_, _, e.fail_events x .contaminated, fun b hb => ?_⟩
  · rw [Eval.fail_d]
    rfl
  · split at hb
    · cases hb
    · exact .inl (List.mem_singleton.mp hb)

theorem Eval.tunes_restore (e : Eval) (x : Setting) : e.tunes x (e.restore x .contaminated) := by
  refine ⟨?_, _, e.restore_events x .contaminated, fun b hb => ?_⟩
  · rw [Eval.restore_d]
    rfl
  · split at hb
    · exact .inr (List.mem_singleton.mp hb)
    · cases hb

theorem Eval.tunes_contaminated (e : Eval) (x : Setting) (b limit : Nat) : e.tunes x (e.contaminated x b limit) := by
  unfold Eval.contaminated
  split
  · exact e.tunes_fail x
  · split
    · exact e.tunes_restore x
    · exact e.tunes_refl x

/-- Contaminated against the limit, with its hysteresis (R76). -/
theorem Eval.contaminated_d (e : Eval) (x : Setting) (b limit : Nat) : (e.contaminated x b limit).d = { e.d with
    faults := { e.d.faults with contaminated :=
      if b = limit then true else if b + 32 < limit then false else e.d.faults.contaminated } } := by
  unfold Eval.contaminated
  split
  · rw [Eval.fail_d]
    rfl
  · split
    · rw [Eval.restore_d]
      rfl
    · rfl

/-- The record of a completed calibration, before the Contaminated decision (R71). -/
def Eval.completed (e : Eval) (x : Setting) (v : Nat) : Eval :=
  { e with d := { e.d with
    life := .supervised
    smoke := { baseline := some (min (16 * x.zone.params.compLimit) (2 * (e.d.smoke.calSum + v)))
               calCount := e.d.smoke.calCount + 1, calSum := e.d.smoke.calSum + v, driftSum := 0, driftCount := 0 } } }

theorem Eval.calibrate_of_not (h : e.d.life ≠ .calibrating) (v : Nat) : e.calibrate x v = e := if_pos h

theorem Eval.calibrate_counts (h : e.d.life = .calibrating) (hn : e.d.smoke.calCount + 1 < 8) (v : Nat) :
    e.calibrate x v = { e with d := { e.d with smoke := { e.d.smoke with
      calCount := e.d.smoke.calCount + 1, calSum := e.d.smoke.calSum + v } } } := by
  rw [Eval.calibrate, if_neg (not_not.mpr h)]
  exact if_pos hn

theorem Eval.calibrate_completes (h : e.d.life = .calibrating) (hn : ¬e.d.smoke.calCount + 1 < 8) (v : Nat) :
    e.calibrate x v =
      if min (16 * x.zone.params.compLimit) (2 * (e.d.smoke.calSum + v)) = 16 * x.zone.params.compLimit then
        (e.completed x v).fail x .contaminated
      else e.completed x v := by
  rw [Eval.calibrate, if_neg (not_not.mpr h)]
  dsimp only
  rw [if_neg hn, clamp_zero]
  rfl

theorem Eval.tunes_calibrate (e : Eval) (x : Setting) (v : Nat) : e.tunes x (e.calibrate x v) := by
  by_cases hl : e.d.life = .calibrating
  · by_cases hn : e.d.smoke.calCount + 1 < 8
    · rw [Eval.calibrate_counts hl hn]
      exact e.tunes_record x _ _
    · have completed : e.tunes x (e.completed x v) := e.tunes_record x _ _
      rw [Eval.calibrate_completes hl hn]
      split
      · exact completed.trans (Eval.tunes_fail _ x)
      · exact completed
  · rw [Eval.calibrate_of_not hl]
    exact e.tunes_refl x

/-- The record and the smoke state of a completed calibration (R71). -/
theorem Eval.calibrate_completed_smoke (h : e.d.life = .calibrating) (hn : ¬e.d.smoke.calCount + 1 < 8) (v : Nat) :
    (e.calibrate x v).d.life = .supervised ∧ (e.calibrate x v).d.smoke = (e.completed x v).d.smoke := by
  rw [Eval.calibrate_completes h hn]
  split
  · rw [Eval.fail_d]
    exact ⟨rfl, rfl⟩
  · exact ⟨rfl, rfl⟩

/-- A drift term added, before the 64th and at it (R74, R75). -/
theorem SmokeState.drifted_eq (m : SmokeState) (b v limit : Nat) : m.drifted b v limit =
    if m.driftCount + 1 < 64 then
      { m with
        baseline := some (min limit b), driftSum := m.driftSum + (16 * (v : Int) - b), driftCount := m.driftCount + 1 }
    else
      { m with
        baseline := some (min (limit : Int)
          ((b : Int) + max (-2) (min 2 ((m.driftSum + (16 * (v : Int) - b)).tdiv 64)))).toNat
        driftSum := 0, driftCount := 0 } := by
  have clamped : ∀ n : Int, (clampInt 0 limit n).toNat = (min (limit : Int) n).toNat := by
    intro n
    unfold clampInt
    omega
  simp only [SmokeState.drifted, clamp_zero, clamped]
  rfl

theorem Eval.drift_of_not {before : Device} (h : ¬(before.life = .supervised ∧ before.cond = .quiet)) (v : Nat) :
    e.drift x before v = e := by
  unfold Eval.drift
  split
  · rfl
  · exact if_neg h

theorem Eval.drift_of_none {before : Device} (h : before.smoke.baseline = none) (v : Nat) :
    e.drift x before v = e := by
  simp only [Eval.drift, h]

/-- Drift tracking of a Supervised and Quiet entry (R74 to R76). -/
theorem Eval.drift_of_quiet {before : Device} (hl : before.life = .supervised) (hc : before.cond = .quiet)
    (hb : before.smoke.baseline = some b) (v : Nat) : e.drift x before v =
      ({ e with d := { e.d with smoke := e.d.smoke.drifted b v (16 * x.zone.params.compLimit) } } : Eval).contaminated x
        ((e.d.smoke.drifted b v (16 * x.zone.params.compLimit)).baseline.getD 0) (16 * x.zone.params.compLimit) := by
  simp only [Eval.drift, hb, hl, hc, and_self, if_true]

theorem Eval.tunes_drift (e : Eval) (x : Setting) (before : Device) (v : Nat) : e.tunes x (e.drift x before v) := by
  by_cases h : before.life = .supervised ∧ before.cond = .quiet
  · cases hb : before.smoke.baseline with
    | none =>
      rw [Eval.drift_of_none hb]
      exact e.tunes_refl x
    | some b =>
      rw [Eval.drift_of_quiet h.1 h.2 hb]
      exact (e.tunes_record x _ _).trans (Eval.tunes_contaminated _ x _ _)
  · rw [Eval.drift_of_not h]
    exact e.tunes_refl x

/-- The evaluation of a smoke record after calibration and drift tracking: a FireLatched one takes calibration alone
(R80). -/
def Eval.tuned (e : Eval) (x : Setting) (v : Nat) : Eval :=
  if e.d.cond = .fireLatched then e.calibrate x v else (e.calibrate x v).drift x e.d v

theorem Eval.tunes_tuned (e : Eval) (x : Setting) (v : Nat) : e.tunes x (e.tuned x v) := by
  unfold Eval.tuned
  split
  · exact e.tunes_calibrate x v
  · exact (e.tunes_calibrate x v).trans (Eval.tunes_drift _ x _ _)

/-- No drift term is added to an entry that is not Supervised and Quiet when the evaluation begins (R74). -/
theorem Eval.tuned_of_not (h : ¬(e.d.life = .supervised ∧ e.d.cond = .quiet)) (v : Nat) :
    e.tuned x v = e.calibrate x v := by
  unfold Eval.tuned
  split
  · rfl
  · exact Eval.drift_of_not h v

theorem Eval.tuned_of_quiet (hl : e.d.life = .supervised) (hc : e.d.cond = .quiet) (v : Nat) :
    e.tuned x v = e.drift x e.d v := by
  rw [Eval.tuned, if_neg (by rw [hc]; decide), Eval.calibrate_of_not (by rw [hl]; decide)]

/-! ### Verification and latch (R81, R82) -/

/-- The last candidate lies within the verification window (R81). -/
abbrev Verification.inTime (m : Verification) (now window : Nat) : Prop :=
  1 ≤ m.count ∧ ∃ t, m.last = some t ∧ now - t ≤ window

theorem Verification.after_inTime {m : Verification} {now window : Nat} (h : m.inTime now window) :
    m.after true now window = { m with count := min 4 (m.count + 1), last := some now } := by
  obtain ⟨started, t, last, near⟩ := h
  obtain ⟨n, count⟩ := Nat.exists_eq_add_of_le' started
  simp [Verification.after, count, last, near]

theorem Verification.after_begun {m : Verification} {now window : Nat} (h : ¬m.inTime now window) :
    m.after true now window = { count := 1, first := some now, last := some now } := by
  obtain ⟨count, first, last⟩ := m
  cases count with
  | zero => rfl
  | succ n =>
    cases last with
    | none => rfl
    | some t =>
      have far : ¬now - t ≤ window := fun near => h ⟨Nat.le_add_left 1 n, t, rfl, near⟩
      simp [Verification.after, far]

/-- The verification of a smoke record after an evaluation at alarm level a (R81). -/
def Eval.verified (e : Eval) (x : Setting) (a : Nat) : Verification :=
  e.d.verif.after (x.zone.tfire ≤ a) x.now (4 * x.zone.params.verifWindow)

/-- The evaluation enters FireLatched (R82). -/
def Eval.latches (e : Eval) (x : Setting) (a : Nat) : Prop :=
  x.zone.tfire ≤ a ∧ x.zone.params.verifications ≤ (e.verified x a).count

/-- The threshold stage leaves the verification (R78). -/
theorem Eval.thresholds_verif (e : Eval) (x : Setting) (a : Nat) : (e.thresholds x a).d.verif = e.d.verif := by
  rw [Eval.thresholds_eq, (e.preAlarmTest_frame x a _ _).1]

theorem Eval.smokeDecide_latched (h : e.latches x a) : e.smokeDecide x a =
    { d := { (e.thresholds x a).d with verif := e.verified x a, cond := .fireLatched }
      events := (e.thresholds x a).events, latch := some (a, x.now - (e.verified x a).first.getD x.now) } := by
  simp only [Eval.smokeDecide, Eval.thresholds_verif]
  exact if_pos h

theorem Eval.smokeDecide_unlatched (h : ¬e.latches x a) : e.smokeDecide x a =
    { d := { (e.thresholds x a).d with verif := e.verified x a }
      events := (e.thresholds x a).events, latch := none } := by
  simp only [Eval.smokeDecide, Eval.thresholds_verif]
  exact if_neg h

/-- The decision takes the verification, and its events and the time of the last one from the threshold stage. -/
theorem Eval.smokeDecide_frame (e : Eval) (x : Setting) (a : Nat) : (e.smokeDecide x a).d = { e.d with
      cond := (e.smokeDecide x a).d.cond, verif := e.verified x a
      lastPreAlarm := (e.thresholds x a).d.lastPreAlarm } ∧
    (e.smokeDecide x a).events = (e.thresholds x a).events := by
  have thresholds : (e.thresholds x a).d = _ := (e.preAlarmTest_frame x a _ _).1
  by_cases h : e.latches x a
  · rw [Eval.smokeDecide_latched h, thresholds]
    exact ⟨rfl, rfl⟩
  · rw [Eval.smokeDecide_unlatched h, thresholds]
    exact ⟨rfl, rfl⟩

/-! ### The smoke evaluation (R71 to R82) -/

/-- The alarm level of a smoke evaluation, against the baseline after calibration (R71, R73). -/
def Eval.level (e : Eval) (x : Setting) (v : Nat) : Nat := alarmLevel (e.calibrate x v).d x.zone.params v

theorem Eval.smoke_of_latched (h : e.d.cond = .fireLatched) (v : Nat) :
    e.smoke x v = { d := (e.tuned x v).d, events := (e.tuned x v).events, latch := none } := by
  rw [Eval.tuned, if_pos h]
  exact if_pos h

theorem Eval.smoke_of_unlatched (h : e.d.cond ≠ .fireLatched) (v : Nat) :
    e.smoke x v = (e.tuned x v).smokeDecide x (e.level x v) := by
  rw [Eval.tuned, if_neg h]
  exact if_neg h

/-- A smoke evaluation takes its state, its smoke state and its faults from calibration and drift tracking, and its
events and the time of the last PreAlarm event from the threshold stage after them. -/
theorem Eval.smoke_frame (e : Eval) (x : Setting) (v : Nat) : (e.smoke x v).d = { (e.tuned x v).d with
      cond := (e.smoke x v).d.cond, verif := (e.smoke x v).d.verif
      lastPreAlarm := ((e.tuned x v).thresholds x (e.level x v)).d.lastPreAlarm } ∧
    (e.smoke x v).events = ((e.tuned x v).thresholds x (e.level x v)).events := by
  by_cases h : e.d.cond = .fireLatched
  · have kept : (e.tuned x v).d.cond = .fireLatched := by rw [(e.tunes_tuned x v).record]; exact h
    have silent : (e.tuned x v).thresholds x (e.level x v) = e.tuned x v := by simp only [Eval.thresholds, kept]
    rw [Eval.smoke_of_latched h, silent]
    exact ⟨rfl, rfl⟩
  · rw [Eval.smoke_of_unlatched h]
    obtain ⟨record, events⟩ := (e.tuned x v).smokeDecide_frame x (e.level x v)
    refine ⟨?_, events⟩
    rw [record]

end Sys2Proof.Machine

/-! ## Heat and call points (R83 to R86) -/

namespace Sys2Proof.Machine

variable {e : Eval} {x : Setting} {d : Device} {r : Byte} {a b v : Nat}

/-- A heat evaluation takes its rate stage, and its events and the time of the last PreAlarm event from the pre-alarm
test (R79, R83, R84). -/
theorem Eval.heat_frame (e : Eval) (x : Setting) (v : Nat) : (e.heat x v).d = { e.d with
      heat := e.d.heat.after ((v : Int) - 40) x.now, cond := (e.heat x v).d.cond
      lastPreAlarm := ((e.heated x v).heatPreAlarm x v).d.lastPreAlarm } ∧
    (e.heat x v).events = ((e.heated x v).heatPreAlarm x v).events := by
  have test : ((e.heated x v).heatPreAlarm x v).d = _ := ((e.heated x v).preAlarmTest_frame x v _ _).1
  rw [Eval.heat_eq]
  split
  · next latched =>
    have silent : (e.heated x v).heatPreAlarm x v = e.heated x v := by
      have kept : (e.heated x v).d.cond = .fireLatched := latched
      simp only [Eval.heatPreAlarm, kept]
    rw [silent]
    exact ⟨rfl, rfl⟩
  · split
    · rw [test]
      exact ⟨rfl, rfl⟩
    · rw [test]
      exact ⟨rfl, rfl⟩

/-- A heat candidate (R85). -/
theorem heatCandidate_iff {m : HeatState} {p : ZoneParams} {θ : Int} : heatCandidate m p θ = true ↔
    (p.tfix : Int) ≤ θ ∨ ∃ ρ, m.rate = some ρ ∧ (p.rrise : Int) ≤ ρ := by
  unfold heatCandidate
  cases m.rate with
  | none => simp
  | some ρ => simp

theorem Eval.heat_of_latched (h : e.d.cond = .fireLatched) (v : Nat) :
    (e.heat x v).d.cond = .fireLatched ∧ (e.heat x v).latch = none := by
  rw [Eval.heat_eq, if_pos h]
  exact ⟨h, rfl⟩

theorem Eval.heat_of_candidate (h : e.d.cond ≠ .fireLatched)
    (hc : heatCandidate (e.heated x v).d.heat x.zone.params ((v : Int) - 40) = true) :
    (e.heat x v).d.cond = .fireLatched ∧ (e.heat x v).latch = some (v, 0) := by
  rw [Eval.heat_eq, if_neg h, if_pos hc]
  exact ⟨rfl, rfl⟩

theorem Eval.heat_of_not_candidate (h : e.d.cond ≠ .fireLatched)
    (hc : ¬heatCandidate (e.heated x v).d.heat x.zone.params ((v : Int) - 40) = true) :
    (e.heat x v).latch = none ∧ (e.heat x v).d.cond = e.d.cond.afterTest
      ((x.zone.params.tfix : Int) - x.zone.params.preOffset ≤ (v : Int) - 40)
      ((v : Int) - 40 < (x.zone.params.tfix : Int) - x.zone.params.preOffset - 4) := by
  rw [Eval.heat_eq, if_neg h, if_neg hc]
  exact ⟨rfl, (e.heated x v).preAlarmTest_cond x v _ _⟩

/-- A call point latches when it is operated and Quiet, and does nothing else (R86). -/
theorem Eval.callPoint_eq (e : Eval) (v : Nat) : e.callPoint v =
    if 1 ≤ v ∧ e.d.cond = .quiet then
      { d := { e.d with cond := .fireLatched }, events := e.events, latch := some (1, 0) }
    else { d := e.d, events := e.events, latch := none } := rfl

/-! ## What follows the decode (R67, R70) -/

/-- The stages after the decode keep the last reading and, of the fault set, all but Contaminated; they add events after
those of the decode and restore no other cause. -/
structure Evaluated.follows (o : Evaluated) (e : Eval) (x : Setting) : Prop where
  reading : o.d.lastReading = e.d.lastReading
  faults : o.d.faults = { e.d.faults with contaminated := o.d.faults.contaminated }
  events : ∃ more, o.events = e.events ++ more ∧
    ∀ c, .deviceRestored x.i (.cause c) ∈ more → c = .contaminated

theorem Eval.smoke_follows (e : Eval) (x : Setting) (v : Nat) : (e.smoke x v).follows e x := by
  obtain ⟨record, events⟩ := e.smoke_frame x v
  obtain ⟨tuned, more, tunedEvents, bodies⟩ := e.tunes_tuned x v
  obtain ⟨-, more', testEvents, bodies'⟩ := (e.tuned x v).preAlarmTest_frame x (e.level x v)
    (x.zone.tpre ≤ e.level x v) (e.level x v + 2 < x.zone.tpre)
  rw [tuned] at record
  refine ⟨by rw [record], by rw [record], more ++ more', ?_, fun c hc => ?_⟩
  · rw [events, Eval.thresholds_eq, testEvents, tunedEvents, List.append_assoc]
  · rcases List.mem_append.mp hc with hc | hc
    · rcases bodies _ hc with same | same
      · cases same
      · cases same; rfl
    · cases bodies' _ hc

theorem Eval.heat_follows (e : Eval) (x : Setting) (v : Nat) : (e.heat x v).follows e x := by
  obtain ⟨record, events⟩ := e.heat_frame x v
  obtain ⟨-, more, testEvents, bodies⟩ := (e.heated x v).preAlarmTest_frame x v
    ((x.zone.params.tfix : Int) - x.zone.params.preOffset ≤ (v : Int) - 40)
    ((v : Int) - 40 < (x.zone.params.tfix : Int) - x.zone.params.preOffset - 4)
  refine ⟨by rw [record], by rw [record], more, by rw [events, Eval.heatPreAlarm_eq, testEvents]; rfl, fun c hc => ?_⟩
  cases bodies _ hc

theorem Eval.callPoint_follows (e : Eval) (x : Setting) (v : Nat) : (e.callPoint v).follows e x := by
  rw [Eval.callPoint_eq]
  split
  · exact ⟨rfl, rfl, [], (List.append_nil _).symm, nofun⟩
  · exact ⟨rfl, rfl, [], (List.append_nil _).symm, nofun⟩

theorem evaluation_follows (x : Setting) (hk : d.kind ≠ .repeater) (h : r.toNat ≤ 250 ∨ r.toNat = 254) :
    (evaluation x d r).follows (d.decoded x r) x := by
  cases kind : d.kind with
  | smoke => exact evaluation_smoke x kind h ▸ Eval.smoke_follows _ x _
  | heat => exact evaluation_heat x kind h ▸ Eval.heat_follows _ x _
  | callPoint => exact evaluation_callPoint x kind h ▸ Eval.callPoint_follows _ x _
  | repeater => exact absurd kind hk

/-- Settles O41: a fault code's record and event are those of `Eval.faultCode`; a measurement's come from the decode,
which the later stages follow. -/
theorem faultCodesDecoded : Obligations.FaultCodesDecoded := by
  refine ⟨fun x d r hk => ⟨fun hr => ?_, fun c hc => ?_⟩, fun x d r hk hr => ?_⟩
  · have ignored := evaluation_of_ignored x hk (faultOf_eq_none (r := r) (by omega) (by omega) (by omega))
      (measured_eq_none (by omega) (by omega))
    exact ⟨congrArg Evaluated.d ignored, congrArg Evaluated.events ignored, congrArg Evaluated.latch ignored⟩
  · have fault := evaluation_of_fault x hk (faultOf_eq_some.mpr hc)
    exact ⟨congrArg Evaluated.latch fault, congrArg Evaluated.events fault, congrArg Evaluated.d fault⟩
  · obtain ⟨reading, faults, more, events, restored⟩ := evaluation_follows x hk hr
    rw [Device.decoded_d] at reading faults
    rw [Device.decoded_events] at events
    refine ⟨reading, faults, more, events, fun c hc told => ?_⟩
    rw [restored c told] at hc
    revert hc
    decide

/-! ### Calibration and drift (R71, R74 to R76) -/

/-- A smoke evaluation takes these fields from calibration and drift tracking. -/
theorem evaluation_tuned (x : Setting) (hk : d.kind = .smoke) (hr : r.toNat ≤ 250 ∨ r.toNat = 254) :
    (evaluation x d r).d.life = ((d.decoded x r).tuned x (min 250 r.toNat)).d.life ∧
      (evaluation x d r).d.smoke = ((d.decoded x r).tuned x (min 250 r.toNat)).d.smoke ∧
      (evaluation x d r).d.faults = ((d.decoded x r).tuned x (min 250 r.toNat)).d.faults := by
  rw [evaluation_smoke x hk hr, (Eval.smoke_frame _ x _).1]
  exact ⟨rfl, rfl, rfl⟩

theorem Eval.tuned_counting (hl : e.d.life = .calibrating) (hn : e.d.smoke.calCount + 1 < 8) (v : Nat) :
    (e.tuned x v).d = { e.d with smoke := { e.d.smoke with
      calCount := e.d.smoke.calCount + 1, calSum := e.d.smoke.calSum + v } } := by
  rw [Eval.tuned_of_not (by simp [hl]), Eval.calibrate_counts hl hn]

theorem Eval.tuned_completing (hl : e.d.life = .calibrating) (hn : e.d.smoke.calCount + 1 = 8) (v : Nat) :
    (e.tuned x v).d.life = .supervised ∧
      (e.tuned x v).d.smoke =
        { baseline := some (min (16 * x.zone.params.compLimit) (2 * (e.d.smoke.calSum + v))), calCount := 8
          calSum := e.d.smoke.calSum + v, driftSum := 0, driftCount := 0 } ∧
      (16 * x.zone.params.compLimit ≤ 2 * (e.d.smoke.calSum + v) → (e.tuned x v).d.faults.contaminated = true) := by
  have eighth : ¬e.d.smoke.calCount + 1 < 8 := by omega
  have calibrated : e.tuned x v = e.calibrate x v := Eval.tuned_of_not (by simp [hl]) v
  obtain ⟨life, smoke⟩ := Eval.calibrate_completed_smoke (x := x) hl eighth v
  rw [calibrated]
  refine ⟨life, smoke.trans (by simp only [Eval.completed, hn]), fun full => ?_⟩
  rw [Eval.calibrate_completes hl eighth, if_pos (min_eq_left full), Eval.fail_d]
  rfl

/-- A Supervised entry that is not Quiet is not tracked (R74). -/
theorem Eval.tuned_of_not_quiet (hl : e.d.life = .supervised) (hc : e.d.cond ≠ .quiet) (v : Nat) :
    e.tuned x v = e := by
  rw [Eval.tuned_of_not (fun h => hc h.2), Eval.calibrate_of_not (by simp [hl])]

/-- A tracked entry: its drift term and step, and Contaminated decided for the baseline that they leave (R74 to R76). -/
theorem Eval.tuned_quiet (hl : e.d.life = .supervised) (hc : e.d.cond = .quiet) (hb : e.d.smoke.baseline = some b)
    (v : Nat) : (e.tuned x v).d.smoke = e.d.smoke.drifted b v (16 * x.zone.params.compLimit) ∧
      ∀ b', (e.tuned x v).d.smoke.baseline = some b' → (e.tuned x v).d.faults.contaminated =
        if b' = 16 * x.zone.params.compLimit then true
        else if b' + 32 < 16 * x.zone.params.compLimit then false
        else e.d.faults.contaminated := by
  rw [Eval.tuned_of_quiet hl hc, Eval.drift_of_quiet hl hc hb, Eval.contaminated_d]
  refine ⟨rfl, fun b' hb' => ?_⟩
  dsimp only at hb' ⊢
  rw [hb', Option.getD_some]

/-- Settles O42: the smoke state and Contaminated are those that calibration and drift tracking leave. -/
theorem smokeBaselineTracked : Obligations.SmokeBaselineTracked := by
  refine ⟨fun x d r hk hl hr => ?_, fun x d r b hk hl hr hb => ?_⟩
  · obtain ⟨life, smoke, faults⟩ := evaluation_tuned x hk hr
    have record := d.decoded_d x r
    have calibrating : (d.decoded x r).d.life = .calibrating := by rw [record]; exact hl
    have state : (d.decoded x r).d.smoke = d.smoke := by rw [record]
    refine ⟨fun hn => ?_, fun _ hn => ?_⟩
    · have counted := Eval.tuned_counting (x := x) calibrating (by rw [state]; exact hn) (min 250 r.toNat)
      rw [counted] at life smoke
      exact ⟨life.trans calibrating, fun _ => smoke.trans (by rw [state])⟩
    · obtain ⟨life', smoke', full⟩ :=
        Eval.tuned_completing (x := x) calibrating (by rw [state]; exact hn) (min 250 r.toNat)
      rw [state] at smoke' full
      exact ⟨life.trans life', smoke.trans smoke', fun h => (congrArg _ faults).trans (full h)⟩
  · obtain ⟨-, smoke, faults⟩ := evaluation_tuned x hk hr
    have record := d.decoded_d x r
    have supervised : (d.decoded x r).d.life = .supervised := by rw [record]; exact hl
    refine ⟨fun hc => ?_, fun hc => ?_⟩
    · rw [Eval.tuned_of_not_quiet supervised (by rw [record]; exact hc), record] at smoke faults
      exact ⟨smoke, by rw [faults]⟩
    · obtain ⟨drifted, decided⟩ := Eval.tuned_quiet (e := d.decoded x r) (x := x) (b := b) supervised
        (by rw [record]; exact hc) (by rw [record]; exact hb) (min 250 r.toNat)
      rw [← faults, ← smoke, record] at decided
      have added := smoke.trans drifted
      rw [record, SmokeState.drifted_eq] at added
      exact ⟨fun hn => added.trans (if_pos hn), fun hn => added.trans (if_neg (not_lt.mpr hn)), decided⟩

/-! ### The alarm level, the verification and the condition (R71, R73, R78, R81) -/

/-- A Supervised entry is compared with its baseline (R73). -/
theorem Device.level_of_supervised (hl : d.life = .supervised)
    (ha : (d.smoke.baseline.map fun b => v - (b + 8) / 16) = some a) : (d.decoded x r).level x v = a := by
  obtain ⟨b, hb, level⟩ := Option.map_eq_some_iff.mp ha
  rw [Eval.level, Eval.calibrate_of_not (by simp [Device.decoded_d, hl]), Device.decoded_d]
  simp only [alarmLevel, hb, roundedBaseline, level]

/-- A Calibrating entry is compared with N, and with its new baseline once calibration completes (R71, R73). -/
theorem Device.level_of_calibrating (hl : d.life = .calibrating) (hb : d.smoke.baseline = none) :
    (d.decoded x r).level x v =
      if d.smoke.calCount + 1 < 8 then v - x.zone.params.nominal
      else v - (min (16 * x.zone.params.compLimit) (2 * (d.smoke.calSum + v)) + 8) / 16 := by
  have record := d.decoded_d x r
  have calibrating : (d.decoded x r).d.life = .calibrating := by rw [record]; exact hl
  have state : (d.decoded x r).d.smoke = d.smoke := by rw [record]
  rw [← state]
  split
  · next hn =>
    rw [Eval.level, Eval.calibrate_counts calibrating hn]
    simp only [alarmLevel, state, hb]
  · next hn =>
    rw [Eval.level, alarmLevel, (Eval.calibrate_completed_smoke calibrating hn v).2]
    rfl

/-- The verification counts a candidate in the window, begins again with one beyond it, and is cleared without one
(R81). -/
theorem Verification.after_eq (m : Verification) (threshold a now window : Nat) :
    m.after (threshold ≤ a) now window =
      if a < threshold then { count := 0, first := none, last := none }
      else if m.inTime now window then { count := min 4 (m.count + 1), first := m.first, last := some now }
      else { count := 1, first := some now, last := some now } := by
  split
  · next below =>
    rw [decide_eq_false (not_le.mpr below)]
    rfl
  · next reached =>
    rw [decide_eq_true (not_lt.mp reached)]
    split
    · next near => exact Verification.after_inTime near
    · next far => exact Verification.after_begun far

/-- The record that a smoke evaluation has tuned keeps what calibration and drift tracking do not read (R71, R74). -/
theorem Device.tuned_record (d : Device) (x : Setting) (r : Byte) (v : Nat) :
    ((d.decoded x r).tuned x v).d = { d with
      lastReading := some (r, x.now)
      life := ((d.decoded x r).tuned x v).d.life, smoke := ((d.decoded x r).tuned x v).d.smoke
      faults := ((d.decoded x r).tuned x v).d.faults } := by
  have record := ((d.decoded x r).tunes_tuned x v).record
  rw [d.decoded_d] at record
  rw [record]

/-- The decode, calibration and drift tracking create no PreAlarm event. -/
theorem Device.decoded_no_preAlarm (d : Device) (x : Setting) (r : Byte) (level : Nat) :
    .preAlarm x.i level ∉ (d.decoded x r).events := by
  rw [Device.decoded_events, List.mem_map]
  rintro ⟨c, -, same⟩
  cases same

theorem Device.tuned_no_preAlarm (d : Device) (x : Setting) (r : Byte) (v level : Nat) :
    .preAlarm x.i level ∉ ((d.decoded x r).tuned x v).events := by
  obtain ⟨-, more, events, bodies⟩ := (d.decoded x r).tunes_tuned x v
  rw [events, List.mem_append]
  rintro (told | told)
  · exact d.decoded_no_preAlarm x r level told
  · rcases bodies _ told with same | same
    · cases same
    · cases same

/-- Settles O43: after the decode and calibration the record holds what the threshold stage, the verification and the
latch read, and the alarm level is that of R73; each clause is then the lemma of its stage. -/
theorem smokeVerificationLatches : Obligations.SmokeVerificationLatches := by
  intro x d r a hk hr _ v limit supervisedAt calibratingAt compared e window inTime next latches pre tells
  let t := (d.decoded x r).tuned x v
  have record : t.d = _ := d.tuned_record x r v
  have cond : t.d.cond = d.cond := by rw [record]
  have unlatched : (d.decoded x r).d.cond = d.cond := by rw [Device.decoded_d]
  have level : (d.decoded x r).level x v = a := by
    rcases compared with ⟨hl, ha⟩ | ⟨hl, hb, ha⟩
    · exact Device.level_of_supervised hl ha
    · rw [Device.level_of_calibrating hl hb, ha]
  have smoke : e = (d.decoded x r).smoke x v := evaluation_smoke x hk hr
  obtain ⟨frame, events⟩ := (d.decoded x r).smoke_frame x v
  rw [← smoke, level] at frame events
  have lastPreAlarm : e.d.lastPreAlarm = (t.thresholds x a).d.lastPreAlarm := by rw [frame]
  have verified : t.verified x a = next := by
    have verif : t.d.verif = d.verif := by rw [record]
    rw [Eval.verified, verif]
    exact d.verif.after_eq x.zone.tfire a x.now window
  obtain ⟨told, silent⟩ :=
    t.preAlarmTest_event x a (x.zone.tpre ≤ a) (a + 2 < x.zone.tpre) (d.tuned_no_preAlarm x r v)
  have tells_iff : t.tells x (x.zone.tpre ≤ a) ↔ tells := by
    rw [Eval.tells, record]
    rfl
  rw [← Eval.thresholds_eq, ← events, ← lastPreAlarm, tells_iff] at told silent
  refine ⟨by rw [frame, record], told, fun h => (silent h).imp id (·.trans (by rw [record])), fun hc => ?_,
    fun hc => ?_⟩
  · have decided : e = t.smokeDecide x a := by rw [smoke, Eval.smoke_of_unlatched (unlatched ▸ hc), level]
    have latches_iff : t.latches x a ↔ latches := by rw [Eval.latches, verified]
    have pre_eq : (t.thresholds x a).d.cond = pre := by
      rw [Eval.thresholds_eq, Eval.preAlarmTest_cond, cond]
      cases h : d.cond with
      | quiet => simp only [pre, h]; rfl
      | preAlarm => simp only [pre, h]; rfl
      | fireLatched => exact absurd h hc
    refine ⟨?_, fun hl => ?_, fun hl => ?_⟩
    · rw [decided, (t.smokeDecide_frame x a).1, verified]
    · rw [decided, Eval.smokeDecide_latched (latches_iff.mpr hl), verified]
      exact ⟨rfl, rfl⟩
    · rw [decided, Eval.smokeDecide_unlatched (mt latches_iff.mp hl)]
      exact ⟨pre_eq, rfl⟩
  · have kept : e = { d := t.d, events := t.events, latch := none } := by
      rw [smoke, Eval.smoke_of_latched (unlatched.trans hc)]
    rw [kept]
    refine ⟨cond.trans hc, rfl, by rw [record], fun h => ?_⟩
    have same : t = d.decoded x r := Eval.tuned_of_not_quiet (by rw [Device.decoded_d]; exact h.1)
      (by rw [unlatched, hc]; decide) v
    rw [same, Device.decoded_d]

/-! ### The heat evaluation and the call point (R79, R83 to R86) -/

theorem HeatState.after_eq (m : HeatState) (θ : Int) (now : Nat) : m.after θ now =
    match m.reference with
    | none => { reference := some (θ, now), rate := m.rate }
    | some (θref, t) =>
      if 240 ≤ now - t then
        { reference := some (θ, now)
          rate := some (max (-250) (min 250 (((θ - θref) * 240).tdiv ((now - t : Nat) : Int)))) }
      else m := by
  unfold HeatState.after
  cases m.reference with
  | none => rfl
  | some p => rfl

/-- The record that a heat evaluation's pre-alarm test and latch read (R70, R83). -/
theorem Device.heated_d (d : Device) (x : Setting) (r : Byte) (v : Nat) : ((d.decoded x r).heated x v).d = { d with
    lastReading := some (r, x.now)
    faults := { d.faults with sensorFault := false, headRemoved := false, selfTestFailed := false }
    heat := d.heat.after ((v : Int) - 40) x.now } := by
  rw [Eval.heated, Device.decoded_d]

/-- Settles O44: a heat evaluation reads the decoded record through the rate stage, the pre-alarm test and the latch; a
call point's is its two branches. -/
theorem heatAndCallPointLatch : Obligations.HeatAndCallPointLatch := by
  refine ⟨fun x d r hk hr => ?_, fun x d r hk hr => ?_⟩
  · intro v θ p e rate heat candidate pre tells
    let t := (d.decoded x r).heated x v
    have evaluated : e = (d.decoded x r).heat x v := evaluation_heat x hk hr
    have record : t.d = _ := d.heated_d x r v
    have cond : (d.decoded x r).d.cond = d.cond := by rw [Device.decoded_d]
    have rated : t.d.heat = heat := by
      rw [record]
      exact d.heat.after_eq θ x.now
    have candidate_iff : heatCandidate t.d.heat p θ = true ↔ candidate := by rw [heatCandidate_iff, rated]
    obtain ⟨frame, events⟩ := (d.decoded x r).heat_frame x v
    rw [← evaluated] at frame events
    have lastPreAlarm : e.d.lastPreAlarm = (t.heatPreAlarm x v).d.lastPreAlarm := by rw [frame]
    have tells_iff : t.tells x (pre ≤ θ) ↔ tells := by
      rw [Eval.tells, record]
      rfl
    obtain ⟨told, silent⟩ := t.preAlarmTest_event x v (pre ≤ θ) (θ < pre - 4) (d.decoded_no_preAlarm x r)
    rw [← show t.heatPreAlarm x v = _ from t.heatPreAlarm_eq x v, ← events, ← lastPreAlarm, tells_iff] at told silent
    have tested : d.cond ≠ .fireLatched → ¬candidate → e.latch = none ∧
        e.d.cond = d.cond.afterTest (pre ≤ θ) (θ < pre - 4) := fun hc h => by
      rw [evaluated, ← cond]
      exact Eval.heat_of_not_candidate (cond ▸ hc) (mt candidate_iff.mp h)
    refine ⟨by rw [frame]; exact rated, told, fun h => (silent h).imp id (·.trans (by rw [record])), fun hc => ?_,
      fun hc h => ?_, fun hc h => ?_, fun hc h => ?_⟩
    · rw [evaluated]
      exact Eval.heat_of_latched (cond.trans hc) v
    · rw [evaluated]
      exact Eval.heat_of_candidate (cond ▸ hc) (candidate_iff.mpr h)
    · rw [hc] at tested
      exact tested (by decide) h
    · rw [hc] at tested
      exact tested (by decide) h
  · intro e operated
    have evaluated : e = _ := evaluation_callPoint x hk hr
    have operates : 1 ≤ min 250 r.toNat ↔ operated := le_min_iff.trans (and_iff_right (by decide))
    rw [Eval.callPoint_eq, Device.decoded_d] at evaluated
    rw [evaluated]
    split
    · next latches =>
      have refuted : ¬(d.cond ≠ .quiet ∨ ¬operated) := fun h => h.elim (· latches.2) (· (operates.mp latches.1))
      exact ⟨rfl, fun _ _ => ⟨rfl, rfl⟩, fun h => absurd h refuted, rfl, rfl, rfl⟩
    · next idle =>
      exact ⟨rfl, fun hc h => absurd ⟨operates.mpr h, hc⟩ idle, fun _ => ⟨rfl, rfl⟩, rfl, rfl, rfl⟩

end Sys2Proof.Machine

/-! ## Levels of the last reading, and a recomputation and a lapse whole (R73, R88, R102, R105 to R108) -/

namespace Sys2Proof.Machine

variable {s : State} {d : Device} {b : Byte} {n : Nat} {z : ZoneIx}

theorem Device.lastValue_of_measurement (hl : d.lastReading = some (b, n)) (h : b.toNat ≤ 250 ∨ b.toNat = 254) :
    d.lastValue = some (min 250 b.toNat) := by
  rw [Device.lastValue, hl]
  exact measured_eq_min h

theorem Device.lastValue_of_fault (hl : d.lastReading = some (b, n)) (h : b.toNat ∈ [251, 252, 255]) :
    d.lastValue = none := by
  rw [Device.lastValue, hl]
  simp only [List.mem_cons, List.not_mem_nil, or_false] at h
  exact measured_eq_none (r := b) (by omega) (by omega)

/-- The alarm level of R73 with the rounding written out. -/
theorem alarmLevel_eq (d : Device) (p : ZoneParams) (v : Nat) : alarmLevel d p v =
    v - (match d.smoke.baseline with
      | some x => (x + 8) / 16
      | none => p.nominal) := by
  unfold alarmLevel
  cases d.smoke.baseline with
  | none => rfl
  | some x => rfl

/-- Without a measurement the standing test is not met (R88). -/
theorem standingTest_of_none (h : d.lastValue = none) (r : Zone) : standingTest d r = false := by
  simp only [standingTest, h]

theorem standingTest_smoke {v : Nat} (h : d.lastValue = some v) (hk : d.kind = .smoke) (r : Zone) :
    standingTest d r = true ↔ r.tpre ≤ alarmLevel d r.params v := by
  simp only [standingTest, h, hk, decide_eq_true_eq]

theorem standingTest_heat {v : Nat} (h : d.lastValue = some v) (hk : d.kind = .heat) (r : Zone) :
    standingTest d r = true ↔ (r.params.tfix : Int) - r.params.preOffset ≤ (v : Int) - 40 := by
  simp only [standingTest, h, hk, decide_eq_true_eq]

theorem standingTest_callPoint (hk : d.kind = .callPoint) (r : Zone) : standingTest d r = false := by
  simp only [standingTest, hk]
  cases d.lastValue with
  | none => rfl
  | some v => rfl

/-- A recomputation that finds the zone's condition changes nothing (R105). -/
theorem State.recompute_same (h : s.rollUp z = (s.zone z).cond) : s.recompute z = s := if_pos h

/-- A recomputation that finds another condition takes it with its event (R105 to R107). -/
theorem State.recompute_differs (h : s.rollUp z ≠ (s.zone z).cond) : s.recompute z =
    (s.setZone z ((s.zone z).withCond (s.rollUp z) s.runClock)).create
      (.zoneCondition z (s.rollUp z) (s.zone z).generation) := if_neg h

/-- CORROBORATION_LAPSE acts when the window has run out (R108). -/
theorem exec_corroborationLapse (hp : s.phase = .running) (z : ZoneIx) : exec (.corroborationLapse z) s =
    .next (if s.windowExpired z = true then s.lapse z else s) := by
  change Host.Outcome.next (s.whenRunning fun s => if s.windowExpired z then s.lapse z else s) = _
  rw [State.whenRunning, if_pos hp]

/-- Settles O47: the two branches of a recomputation, of the window's test and of the standing test by kind. -/
theorem zoneConditionTaken : Obligations.ZoneConditionTaken := by
  refine ⟨fun s z => ⟨State.recompute_same, State.recompute_differs⟩, fun s z hp => ?_, fun d r => ?_⟩
  · rw [exec_corroborationLapse hp]
    refine ⟨fun live => congrArg _ (if_neg (mt State.windowExpired_iff.mp live)), fun i expired hc hf single => ?_⟩
    rw [if_pos (State.windowExpired_iff.mpr expired), State.lapse_single hc hf single]
    rfl
  · have tpre : r.tpre = match r.profile with
        | .normal => r.params.normalTpre
        | .service => r.params.serviceTpre := by
      unfold Zone.tpre
      cases r.profile <;> rfl
    intro standing
    rw [show standing = r.tpre from tpre.symm]
    refine ⟨fun absent => standingTest_of_none (by rw [Device.lastValue, absent]; rfl) r,
      fun b n hl => ⟨fun fault => ?_, fun hb => ?_⟩⟩
    · exact standingTest_of_none (Device.lastValue_of_fault hl fault) r
    · have value := Device.lastValue_of_measurement hl hb
      exact ⟨fun hk => (standingTest_smoke value hk r).trans (iff_of_eq (congrArg _ (alarmLevel_eq d r.params _))),
        fun hk => standingTest_heat value hk r, fun hk => standingTest_callPoint hk r⟩

end Sys2Proof.Machine

/-! ## Disable Device and Enable Device (R102, R120, R122) -/

namespace Sys2Proof.Machine

variable {s : State} {d : Device} {h : FrameHead} {b : Byte} {i : DevIx} {n : Nat}

theorem LinkSet.isEmpty_iff {x : LinkSet} : x.isEmpty = true ↔ x = {} := by
  obtain ⟨a, b, s⟩ := x
  simp [LinkSet.isEmpty, and_assoc]

/-- The checks of the device disablement commands from an attached link for an entry that is present (R112, R120). -/
theorem deviceChecks_eq (hb : b.toNat = i.val) (hv : (s.dev i).life ≠ .vacant) (hm : s.mayOperate h.link = true) :
    deviceChecks h b s =
      if (s.dev i).kind = .repeater then .error { result := .wrongState } else .ok i := by
  simp only [deviceChecks, deviceTarget_of_eq hb, ok_bind, State.checkPresent, State.checkAttached, check_of hm,
    check_of (show ((s.dev i).life != .vacant) = true by simpa using hv)]
  split
  · next hk => rw [check_of_not (by simp [hk])]; rfl
  · next hk => rw [check_of (by simpa using hk)]; rfl

/-- The record that a first disablement leaves: an unlatched Smoke record loses its verification (R87, R120). -/
def Device.firstDisabled (d : Device) (l : Link) : Device :=
  { d with
    disabled := d.disabled.add l
    verif := if d.kind = .smoke ∧ d.cond ≠ .fireLatched then {} else d.verif }

theorem State.firstDisable_eq (s : State) (l : Link) (i : DevIx) : s.firstDisable l i =
    if s.counted i = true then
      ((s.setDev i ((s.dev i).firstDisabled l)).create (.deviceDisabled i l)).recompute (s.dev i).zone
    else (s.setDev i ((s.dev i).firstDisabled l)).create (.deviceDisabled i l) := by
  have record : (if (s.dev i).cond = .fireLatched then { s.dev i with disabled := (s.dev i).disabled.add l }
      else ({ s.dev i with disabled := (s.dev i).disabled.add l } : Device).verifCleared) =
        (s.dev i).firstDisabled l := by
    unfold Device.firstDisabled Device.verifCleared
    by_cases hc : (s.dev i).cond = .fireLatched
    · simp [hc]
    · by_cases hk : (s.dev i).kind = .smoke
      · simp [hc, hk]
      · simp [hc, hk]
  rw [← record]
  rfl

/-- The checks of Disable Device in their order, and its effect (R120). -/
theorem disableDevice_eq (hb : b.toNat = i.val) (hv : (s.dev i).life ≠ .vacant) (hm : s.mayOperate h.link = true) :
    disableDevice h [b] s =
      if (s.dev i).kind = .repeater then .error { result := .wrongState }
      else if (s.dev i).disabled.has h.link = true then
        .error { result := .noChange, value := (s.dev i).disabled.code }
      else if (s.dev i).disabled = {} then
        .ok (doneReply ((s.dev i).disabled.add h.link).code, s.firstDisable h.link i)
      else
        .ok (doneReply ((s.dev i).disabled.add h.link).code,
          s.setDev i { s.dev i with disabled := (s.dev i).disabled.add h.link }) := by
  simp only [disableDevice, deviceChecks_eq hb hv hm, LinkSet.isEmpty_iff]
  split
  · rfl
  · rfl

/-- The checks of Enable Device in their order, and its effect (R122). -/
theorem enableDevice_eq (hb : b.toNat = i.val) (hv : (s.dev i).life ≠ .vacant) (hm : s.mayOperate h.link = true) :
    enableDevice h [b] s =
      if (s.dev i).kind = .repeater then .error { result := .wrongState }
      else if (s.dev i).disabled.has h.link = false then
        .error { result := .noChange, value := (s.dev i).disabled.code }
      else if (s.dev i).disabled.remove h.link = {} then
        .ok (doneReply ((s.dev i).disabled.remove h.link).code,
          ((s.setDev i { s.dev i with disabled := (s.dev i).disabled.remove h.link }).create
            (.deviceEnabled i h.link)).deviceCounted i)
      else
        .ok (doneReply ((s.dev i).disabled.remove h.link).code,
          s.setDev i { s.dev i with disabled := (s.dev i).disabled.remove h.link }) := by
  simp only [enableDevice, deviceChecks_eq hb hv hm, LinkSet.isEmpty_iff, Bool.not_eq_true']
  split
  · rfl
  · rfl

/-- Creating an event leaves whether an entry is counted (R95). -/
@[simp] theorem State.create_counted (s : State) (x : EventBody) (i : DevIx) :
    (s.create x).counted i = s.counted i := by
  simp only [State.counted, State.create_dev, State.create_zone]

@[simp] theorem State.taken_counted (s : State) (h : FrameHead) (i : DevIx) : (s.taken h).counted i = s.counted i := by
  simp only [State.counted, State.taken_dev, State.taken_zone]

/-! ### What a kept latch carries (R102) -/

theorem standingLevel_of_fault (hl : d.lastReading = some (b, n)) (hb : b.toNat ∈ [251, 252, 255]) (r : Zone) :
    standingLevel d r = 0 := by
  simp only [standingLevel, hl, Device.lastValue_of_fault hl hb]

theorem standingLevel_smoke (hl : d.lastReading = some (b, n)) (hb : b.toNat ≤ 250 ∨ b.toNat = 254)
    (hk : d.kind = .smoke) (r : Zone) : standingLevel d r = alarmLevel d r.params (min 250 b.toNat) := by
  simp only [standingLevel, hl, Device.lastValue_of_measurement hl hb, hk]

theorem standingLevel_heat (hl : d.lastReading = some (b, n)) (hb : b.toNat ≤ 250 ∨ b.toNat = 254)
    (hk : d.kind = .heat) (r : Zone) : standingLevel d r = min 250 b.toNat := by
  simp only [standingLevel, hl, Device.lastValue_of_measurement hl hb, hk]

theorem standingLevel_callPoint (hl : d.lastReading = some (b, n)) (hb : b.toNat ≤ 250 ∨ b.toNat = 254)
    (hk : d.kind = .callPoint) (r : Zone) : standingLevel d r = 1 := by
  simp only [standingLevel, hl, Device.lastValue_of_measurement hl hb, hk]

theorem keptElapsed_smoke {first last : Nat} (hk : d.kind = .smoke) (hf : d.verif.first = some first)
    (hl : d.verif.last = some last) : keptElapsed d = last - first := by
  simp only [keptElapsed, hk, hf, hl]

theorem keptElapsed_of_not_smoke (hk : d.kind ≠ .smoke) : keptElapsed d = 0 := by
  unfold keptElapsed
  cases kind : d.kind with
  | smoke => exact absurd kind hk
  | heat => rfl
  | callPoint => rfl
  | repeater => rfl

/-- Enabling an entry: a kept latch begins with the level and elapsed time of its record as it stood (R102, R122). -/
theorem State.deviceCounted_enabled (s : State) (i : DevIx) (l : Link) (x : LinkSet) :
    ((s.setDev i { s.dev i with disabled := x }).create (.deviceEnabled i l)).deviceCounted i =
      if (s.setDev i { s.dev i with disabled := x }).counted i = true then
        (if (s.dev i).cond = .fireLatched then
          ((s.setDev i { s.dev i with disabled := x }).create (.deviceEnabled i l)).beginLatch i
            (standingLevel (s.dev i) (s.zone (s.dev i).zone)) (keptElapsed (s.dev i))
        else (s.setDev i { s.dev i with disabled := x }).create (.deviceEnabled i l)).recompute (s.dev i).zone
      else (s.setDev i { s.dev i with disabled := x }).create (.deviceEnabled i l) := by
  simp only [State.deviceCounted, State.beginKeptLatch, State.create_counted, State.create_dev, State.create_zone,
    State.dev_setDev_self, State.setDev_zone]
  rfl

/-- What the disablement commands change leaves every link able to respond (R120, R122). -/
theorem State.firstDisable_port (s : State) (l m : Link) (i : DevIx) : (s.firstDisable l i).port m = s.port m := by
  rw [State.firstDisable_eq]
  split
  · simp
  · simp

theorem State.deviceCounted_port (s : State) (i : DevIx) (m : Link) : (s.deviceCounted i).port m = s.port m := by
  have begun : (s.beginKeptLatch i).port m = s.port m := by cases m <;> simp [State.beginKeptLatch, State.port]
  unfold State.deviceCounted
  split
  · rw [State.recompute_port]
    split
    · exact begun
    · rfl
  · rfl

/-- Settles O14: each clause reads one branch of the checks of R120 and R122, made on the state that the taken frame
leaves, and the kept latch's values by reading and kind. -/
theorem deviceDisablementDecided : Obligations.DeviceDisablementDecided := by
  refine ⟨fun s h b i ht hm hb hv => ?_, fun s h b i ht hm hb hv => ?_, fun d r => ⟨?_, ?_, ?_, ?_⟩⟩
  · have refused : ∀ {r v}, disableDevice h [b] (s.taken h) = .error { result := r, value := v } →
        s.refuses h r v (exec (.disableDevice h [b]) s) := fun e => State.command_refuses ht rfl e
    have done : ∀ {r t}, disableDevice h [b] (s.taken h) = .ok (r, t) → t.port h.link = (s.taken h).port h.link →
        exec (.disableDevice h [b]) s = .next (t.sends h.link h.tag r) :=
      fun e port => congrArg _ (State.command_carried ht rfl e (State.answers_of_port ht.answers port))
    have decided := disableDevice_eq (s := s.taken h) (h := h) hb (by simpa using hv) (by simpa using hm)
    simp only [State.taken_dev] at decided
    refine next_ite_of_eq_ite decided refused fun decided => ?_
    refine next_ite_of_eq_ite decided refused fun decided => ?_
    refine next_ite_of_eq_ite decided (fun decided => ?_) fun decided => done decided (by simp)
    have first := (s.taken h).firstDisable_eq h.link i
    simp only [State.taken_dev, State.taken_counted] at first
    rw [done decided (State.firstDisable_port _ _ _ _), first]
    rfl
  · have refused : ∀ {r v}, enableDevice h [b] (s.taken h) = .error { result := r, value := v } →
        s.refuses h r v (exec (.enableDevice h [b]) s) := fun e => State.command_refuses ht rfl e
    have done : ∀ {r t}, enableDevice h [b] (s.taken h) = .ok (r, t) → t.port h.link = (s.taken h).port h.link →
        exec (.enableDevice h [b]) s = .next (t.sends h.link h.tag r) :=
      fun e port => congrArg _ (State.command_carried ht rfl e (State.answers_of_port ht.answers port))
    have decided := enableDevice_eq (s := s.taken h) (h := h) hb (by simpa using hv) (by simpa using hm)
    simp only [State.taken_dev] at decided
    refine next_ite_of_eq_ite decided refused fun decided => ?_
    refine next_ite_of_eq_ite decided refused fun decided => ?_
    refine next_ite_of_eq_ite decided (fun decided => ?_) fun decided => done decided (by simp)
    have enabled := (s.taken h).deviceCounted_enabled i h.link ((s.dev i).disabled.remove h.link)
    simp only [State.taken_dev, State.taken_zone] at enabled
    rw [done decided (by rw [State.deviceCounted_port]; simp), enabled]
    rfl
  · exact fun b n hl hb => standingLevel_of_fault hl hb r
  · intro b n hl hb v
    exact ⟨fun hk => (standingLevel_smoke hl hb hk r).trans (alarmLevel_eq d r.params v),
      fun hk => standingLevel_heat hl hb hk r, fun hk => standingLevel_callPoint hl hb hk r⟩
  · exact fun first last hk hf hl => keptElapsed_smoke hk hf hl
  · exact keptElapsed_of_not_smoke

end Sys2Proof.Machine

/-! ## What leaves the zones -/

namespace Sys2Proof.Machine

variable (s : State)

theorem State.foldl_zones {α : Type} {f : State → α → State} (h : ∀ (u : State) a, (f u a).zones = u.zones)
    (l : List α) (s : State) : (l.foldl f s).zones = s.zones := by
  induction l generalizing s with
  | nil => rfl
  | cons a l ih => exact (ih (f s a)).trans (h s a)

/-! ### Links and the store -/

@[simp] theorem State.taken_zones (h : FrameHead) : (s.taken h).zones = s.zones := by
  obtain ⟨l, key, tag, level⟩ := h
  cases l <;> rfl

@[simp] theorem State.answer_zones (l : Link) (tag : Byte) (r : Reply) : (s.answer l tag r).zones = s.zones := by
  unfold State.answer
  split
  · exact s.setPort_zones l _
  · rfl

@[simp] theorem State.finishCommand_zones (r : Reply) : (s.finishCommand r).zones = s.zones := by
  unfold State.finishCommand
  split
  · rfl
  · exact State.answer_zones _ _ _ _

@[simp] theorem State.requestRoster_zones (ixs : List DevIx) : (s.requestRoster ixs).zones = s.zones := by
  rcases s.requestRoster_cases ixs with ⟨-, e⟩ | ⟨-, e⟩ | ⟨-, e⟩ <;> simp [e]

theorem State.startWaiting_zones : s.startWaiting.zones = s.zones := by
  unfold State.startWaiting
  split <;> rfl

theorem State.rosterWriteEnd_zones (v : Bool) : (s.rosterWriteEnd v).zones = s.zones := by
  unfold State.rosterWriteEnd
  split
  · split <;> simp
  · rfl

theorem State.detachPanel_zones (p : Panel) (c : DetachCause) : (s.detachPanel p c).zones = s.zones := by
  unfold State.detachPanel
  dsimp only
  split <;> simp

/-! ### Copies, downlinks and cells -/

theorem State.handEnrol_zones (c : CellIx) (identity : BitVec 24) (kind : Byte) (p : Path) :
    (s.handEnrol c identity kind p).zones = s.zones := by
  unfold State.handEnrol
  dsimp only
  split
  · split
    · split
      · split
        · rfl
        · exact State.create_zones _ _
      · rfl
    · split <;> rfl
  · split <;> rfl

theorem State.reportMarks_zones (c : CellIx) (i : DevIx) (via : SlotKind) :
    (s.reportMarks c i via).zones = s.zones := by
  have marked : (match s.time.slot with
      | some h => s.setSlot c h .heard
      | none => s).zones = s.zones := by split <;> rfl
  cases via with
  | home => exact marked
  | shadow => exact marked

theorem State.countOutcome_zones (c : CellIx) (o : CopyOutcome) : (s.countOutcome c o).zones = s.zones := by
  cases o <;> rfl

theorem State.alignUnsupervised_zones (i : DevIx) : (s.alignUnsupervised i).zones = s.zones :=
  (State.createAll_zones _ _).trans rfl

theorem State.grantDownlink_zones (c : CellIx) (q : Claim) : (s.grantDownlink c q).zones = s.zones := by
  have granted : ∀ (u : State) i, (u.granted c i).zones = u.zones := fun u i => by
    obtain ⟨-, -, zones, -⟩ := u.grantWritten_frame c i
    rw [State.granted_eq, State.alignUnsupervised_zones, zones]
  unfold State.grantDownlink
  split
  · rfl
  · split
    · dsimp only
      split
      · exact granted _ _
      · rfl
    · rfl

theorem State.assemble_zones (c : CellIx) : (s.assemble c).zones = s.zones := by
  have acknowledged : ∀ (u : State) f, (u.acknowledge c f).zones = u.zones := fun u f => by
    unfold State.acknowledge
    split <;> rfl
  unfold State.assemble
  dsimp only
  split
  · rfl
  · split
    · split
      · exact State.grantDownlink_zones _ _ _
      · rfl
    · split
      · exact acknowledged _ _
      · rfl
    · split
      · exact acknowledged _ _
      · rfl
    · rfl

theorem State.cellStateChanged_zones (c : CellIx) : (s.cellStateChanged c).zones = s.zones :=
  State.foldl_zones State.alignUnsupervised_zones _ s

theorem State.confirm_zones (c : CellIx) (x : TxName) : (s.confirm c x).zones = s.zones := by
  unfold State.confirm
  split
  · rfl
  · split
    · exact State.cellStateChanged_zones _ c
    · rfl

theorem State.superframeBoundary_zones : s.superframeBoundary.zones = s.zones := by
  unfold State.superframeBoundary
  rw [State.requestBeacons_eq]
  exact s.superframeEnded_allCells.zones

theorem State.endInterval_zones : s.endInterval.zones = s.zones :=
  (State.foldl_zones (f := fun u c => u.modCell c Cell.newInterval) (fun _ _ => rfl) allCells _).trans
    s.slotsOnly_slotsEnded.zones

theorem State.cycleBoundary_zones : s.cycleBoundary.zones = s.zones := by
  have transferred : ∀ (u : State) i, (u.transferAnnounced i).zones = u.zones := fun u i => by
    unfold State.transferAnnounced
    split
    · exact (State.alignUnsupervised_zones _ _).trans ((State.create_zones _ _).trans (State.requestRoster_zones _ _))
    · rfl
  obtain ⟨st, retried, -⟩ := (allDevs.foldl State.transferAnnounced s).retryOutstanding_spec
  have prepared : ∀ (u : State) c, (u.prepareSlots c).zones = u.zones := fun u c => by
    unfold State.prepareSlots
    split <;> rfl
  rw [State.cycleBoundary, State.foldl_zones prepared, retried, ← State.foldl_zones transferred allDevs s]

theorem State.routesWrite_zones (i : DevIx) (identity : BitVec 24) (f : RoutePair → RoutePair) :
    (s.routesWrite i identity f).zones = s.zones := by
  unfold State.routesWrite
  split
  · rfl
  · dsimp only
    split
    · rfl
    · exact State.markOutstanding_zones _ _ _

theorem State.cancelled_zones (i : DevIx) (m : Move) : (s.cancelled i m).zones = s.zones := by
  unfold State.cancelled
  split <;> rfl

end Sys2Proof.Machine

/-! ## Zone records kept sound (R106, R107, R110) -/

namespace Sys2Proof.Machine

variable {s t u : State}

/-- A new condition keeps a record sound: it sets the first-latch time and the acknowledgement by the condition it
takes (R106, R107). -/
theorem Zone.sound.withCond {r : Zone} (h : r.sound) (c : ZoneCond) (now : Nat) : (r.withCond c now).sound := by
  obtain ⟨-, -, expiry⟩ := h
  refine ⟨?_, ?_, expiry⟩
  · by_cases hc : c = .alerted
    · simp [Zone.withCond, hc]
    · simp [Zone.withCond, hc]
  · intro acked
    cases c with
    | quiet => cases acked
    | preAlarm => cases acked
    | alerted => exact .inl rfl
    | fire => exact .inr rfl

theorem Zone.inAlarm_iff {r : Zone} : r.inAlarm = true ↔ r.cond = .fire ∨ r.cond = .alerted := by simp [Zone.inAlarm]

/-- An acknowledgement of a zone in alarm keeps its record sound (R106). -/
theorem Zone.sound.withAck {r : Zone} (h : r.sound) (hr : r.inAlarm = true) (a : Ack) :
    ({ r with ack := some a } : Zone).sound :=
  ⟨h.1, fun _ => (Zone.inAlarm_iff.mp hr).symm, h.2.2⟩

/-- A step that leaves every zone record sound that was. -/
def State.keepsZones (s t : State) : Prop := ∀ z, (s.zone z).sound → (t.zone z).sound

theorem State.keepsZones_refl (s : State) : s.keepsZones s := fun _ => id

theorem State.keepsZones.trans (h : s.keepsZones t) (h' : t.keepsZones u) : s.keepsZones u := fun z => h' z ∘ h z

/-- A step that leaves the zones. -/
theorem State.keepsZones_of_eq (h : t.zones = s.zones) : s.keepsZones t := fun z hz => by
  rw [State.zone, h]
  exact hz

theorem State.keepsZones_setZone {z : ZoneIx} {r : Zone} (h : (s.zone z).sound → r.sound) :
    s.keepsZones (s.setZone z r) := fun y hy => by
  rw [State.zone_setZone]
  split
  · next e => exact h (e ▸ hy)
  · exact hy

theorem State.keepsZones_setDev (s : State) (i : DevIx) (d : Device) : s.keepsZones (s.setDev i d) :=
  State.keepsZones_of_eq rfl

theorem State.keepsZones_setCell (s : State) (c : CellIx) (r : Cell) : s.keepsZones (s.setCell c r) :=
  State.keepsZones_of_eq rfl

theorem State.keepsZones_create (s : State) (b : EventBody) : s.keepsZones (s.create b) :=
  State.keepsZones_of_eq (s.create_zones b)

theorem State.keepsZones_createAll (s : State) (bs : List EventBody) : s.keepsZones (s.createAll bs) :=
  State.keepsZones_of_eq (s.createAll_zones bs)

theorem State.keepsZones_foldl {α : Type} {f : State → α → State} (h : ∀ (u : State) a, u.keepsZones (f u a))
    (l : List α) (s : State) : s.keepsZones (l.foldl f s) := by
  induction l generalizing s with
  | nil => exact s.keepsZones_refl
  | cons a l ih => exact (h s a).trans (ih (f s a))

theorem State.keepsZones_ite {p : Prop} [Decidable p] (ht : p → s.keepsZones t) (hu : ¬p → s.keepsZones u) :
    s.keepsZones (if p then t else u) := by
  split
  · next h => exact ht h
  · next h => exact hu h

/-- A zone's record replaced by one as sound, with an event. -/
theorem State.keepsZones_setZone_create {z : ZoneIx} {r : Zone} {b : EventBody} (h : (s.zone z).sound → r.sound) :
    s.keepsZones ((s.setZone z r).create b) :=
  (State.keepsZones_setZone h).trans (State.keepsZones_create _ b)

/-! ### The Zone Table (R98 to R108) -/

theorem State.keepsZones_recompute (s : State) (z : ZoneIx) : s.keepsZones (s.recompute z) :=
  State.keepsZones_ite (fun _ => s.keepsZones_refl)
    fun _ => State.keepsZones_setZone_create fun h => h.withCond (s.rollUp z) s.runClock

/-- A counted latch's beginning changes the generation alone (R99). -/
theorem State.keepsZones_beginLatch (s : State) (i : DevIx) (level elapsed : Nat) :
    s.keepsZones (s.beginLatch i level elapsed) := by
  have advanced : s.keepsZones (s.setZone (s.dev i).zone { s.zone (s.dev i).zone with
    generation := (s.zone (s.dev i).zone).generation + 1 }) := State.keepsZones_setZone id
  have counted : ∀ (u : State) (n : BitVec 16), u.keepsZones { u with siteCount := n } :=
    fun _ _ => State.keepsZones_of_eq rfl
  exact (advanced.trans (counted _ _)).trans (State.keepsZones_create _ _)

theorem State.keepsZones_handed (s : State) (i : DevIx) (latch : Option (Nat × Nat)) (a b : Cond) :
    s.keepsZones (s.handed i latch a b) := by
  have taken : ∀ level elapsed, s.keepsZones (s.takeLatch i level elapsed) := fun level elapsed => by
    unfold State.takeLatch
    dsimp only
    split
    · exact State.keepsZones_of_eq (s.create_zones _)
    · split
      · exact s.keepsZones_create _
      · exact (s.keepsZones_beginLatch i _ _).trans (State.keepsZones_recompute _ _)
  unfold State.handed
  split
  · exact taken _ _
  · exact State.keepsZones_ite (fun _ => s.keepsZones_refl) fun _ =>
      State.keepsZones_ite (fun _ => s.keepsZones_recompute _) fun _ => s.keepsZones_refl

theorem State.keepsZones_acceptFrame (s : State) (i : DevIx) (f : Sample) (arrival : Fin 8192) :
    s.keepsZones (s.acceptFrame i f arrival) := by
  have taken := (s.keepsZones_setDev i (frameTaken (s.setting i) (s.dev i) f arrival).d).trans
    (State.keepsZones_createAll _ (frameTaken (s.setting i) (s.dev i) f arrival).events)
  refine State.keepsZones_ite (fun _ => taken) fun _ => taken.trans ?_
  rw [State.evaluate_eq]
  exact ((State.keepsZones_setDev _ i _).trans (State.keepsZones_createAll _ _)).trans
    (State.keepsZones_handed _ i _ _ _)

theorem State.keepsZones_deviceCounted (s : State) (i : DevIx) : s.keepsZones (s.deviceCounted i) :=
  State.keepsZones_ite
    (fun _ => (State.keepsZones_ite (fun _ => s.keepsZones_beginLatch i _ _)
      (fun _ => s.keepsZones_refl)).trans (State.keepsZones_recompute _ _))
    (fun _ => s.keepsZones_refl)

theorem State.keepsZones_membersCounted (s : State) (z : ZoneIx) (ixs : List DevIx) :
    s.keepsZones (s.membersCounted z ixs) :=
  (State.keepsZones_foldl (fun u i => u.keepsZones_beginLatch i _ _) _ s).trans (State.keepsZones_recompute _ _)

theorem State.keepsZones_lapse (s : State) (z : ZoneIx) : s.keepsZones (s.lapse z) := by
  rcases s.lapse_cases z with ⟨-, e⟩ | ⟨i, -, -, e⟩
  · rw [e]; exact s.keepsZones_recompute z
  · rw [e]
    exact ((s.keepsZones_setDev i _).trans (State.keepsZones_create _ _)).trans (State.keepsZones_recompute _ z)

/-- A zone's new parameters change no other field of its record before the roll-up (R93). -/
theorem State.keepsZones_withParams (s : State) (z : ZoneIx) (p : ZoneParams) : s.keepsZones (s.withParams z p) := by
  have limited : s.keepsZones (s.limited z p) := fun y hy => by
    rw [State.limited_zone]
    split
    · next e => exact e ▸ hy
    · exact hy
  have recomputed := limited.trans (State.keepsZones_recompute _ z)
  rw [State.withParams_eq]
  exact State.keepsZones_ite (fun _ => recomputed.trans (State.keepsZones_lapse _ z)) fun _ => recomputed

theorem State.keepsZones_removed (s : State) (i : DevIx) : s.keepsZones (s.removed i) := by
  refine State.keepsZones_ite (fun _ => State.keepsZones_of_eq ?_)
    fun _ => (State.keepsZones_of_eq ?_).trans (State.keepsZones_recompute _ _)
  · exact (State.create_zones _ _).trans (State.mapDevs_zones _ _)
  · exact (State.create_zones _ _).trans rfl

/-! ### Copies (R33 to R37) -/

theorem State.keepsZones_handFrame (s : State) (c : CellIx) (i : DevIx) (via : SlotKind) (f : Sample) (x : Copy) :
    s.keepsZones (s.handFrame c i via f x) := by
  have learned : s.keepsZones (s.modDev i fun d => { d with routes := d.routes.learn f.path x.level.val }) :=
    s.keepsZones_setDev i _
  exact State.keepsZones_ite (fun _ => learned) fun _ =>
    (learned.trans (State.keepsZones_setCell _ c _)).trans (State.keepsZones_acceptFrame _ _ _ _)

theorem State.keepsZones_handCopy (s : State) (c : CellIx) (w : Uplink) (x : Copy) :
    s.keepsZones (s.handCopy c w x) := by
  cases w with
  | enrol identity kind p => exact State.keepsZones_of_eq (s.handEnrol_zones _ _ _ _)
  | report f =>
    simp only [State.handCopy]
    split
    · next i via _ =>
      have handed := s.keepsZones_handFrame c i via f x
      exact State.keepsZones_ite (fun _ => handed)
        fun _ => handed.trans (State.keepsZones_of_eq (State.reportMarks_zones _ _ _ _))
    · exact s.keepsZones_refl
  | alarm f =>
    simp only [State.handCopy]
    split
    · exact s.keepsZones_handFrame _ _ _ _ _
    · exact s.keepsZones_refl

theorem State.keepsZones_receiveCopy (s : State) (c : CellIx) (x : Copy) : s.keepsZones (s.receiveCopy c x) := by
  have ticked : s.keepsZones (s.atTick x.taken) := State.keepsZones_of_eq rfl
  have examined : ∀ (v : State) w, v.keepsZones (v.examine c w x) := fun v w =>
    (State.keepsZones_ite (fun _ => v.keepsZones_handCopy c w x)
      fun _ => State.keepsZones_of_eq (v.countOutcome_zones c _)).trans (State.keepsZones_of_eq rfl)
  simp only [State.receiveCopy]
  split
  · exact ticked
  · split
    · exact State.keepsZones_of_eq rfl
    · split
      · exact State.keepsZones_of_eq rfl
      · exact State.keepsZones_ite (fun _ => ticked) fun _ => ticked.trans (examined _ _)

end Sys2Proof.Machine

/-! ## Commands keep the zone records sound -/

namespace Sys2Proof.Machine

variable {s t u : State} {h : FrameHead} {ops : List Byte} {r : Reply}

/-- A command whose effect keeps the zone records sound, wherever it is carried out, keeps them. -/
theorem State.keepsZones_command {c : Command} {body : State → Except Reply (Reply × State)}
    (hb : ∀ {u t : State} {r}, body u = .ok (r, t) → u.keepsZones t) : s.keepsZones (s.command h c ops body) := by
  have replied : ∀ (v : State) r, v.keepsZones (v.reply h r) := fun v r => State.keepsZones_of_eq (v.answer_zones _ _ r)
  have taken : s.keepsZones (s.taken h) := State.keepsZones_of_eq (s.taken_zones h)
  rcases s.command_cases h c ops body with e | e | ⟨r, e⟩ | ⟨-, r, t, hok, e⟩
  · rw [e]; exact s.keepsZones_refl
  · rw [e]; exact State.keepsZones_of_eq (s.setPort_zones _ _)
  · rw [e]; exact taken.trans (replied _ r)
  · rw [e]; exact (taken.trans (hb hok)).trans (replied _ r)

/-- A command whose effect leaves the zones. -/
theorem State.keepsZones_command_of_eq {c : Command} {body : State → Except Reply (Reply × State)}
    (hb : ∀ {u t : State} {r}, body u = .ok (r, t) → t.zones = u.zones) : s.keepsZones (s.command h c ops body) :=
  State.keepsZones_command fun e => State.keepsZones_of_eq (hb e)

/-- A writing command leaves the zones until its write ends (R152). -/
theorem State.keepsZones_writeCommand {c : Command} {body : State → Except Reply CommandWrite} :
    s.keepsZones (s.writeCommand h c ops body) := by
  refine State.keepsZones_of_eq ?_
  rcases s.writeCommand_cases h c ops body with e | e | ⟨r, e⟩ | ⟨-, w, -, e⟩
  · rw [e]
  · rw [e]; exact s.setPort_zones _ _
  · rw [e]; exact (State.answer_zones _ _ _ r).trans (s.taken_zones h)
  · rw [e]; simp

/-! ### Queries, delivery and the commands of cells and moves -/

/-- A query checks its target and answers, nothing changed (R160). -/
theorem query_state {α : Type} {x : Except Reply α} {v : α → Nat} {data : α → List Byte}
    (e : (x >>= fun a => answerQuery s (v a) (data a)) = .ok (r, t)) : t = s := by
  obtain ⟨a, -, e⟩ := bind_eq_ok_iff.mp e
  cases e
  rfl

theorem readDevice_state (e : readDevice ops s = .ok (r, t)) : t = s := by
  unfold readDevice at e
  split at e
  · exact query_state e
  · cases e

theorem readZone_state (e : readZone ops s = .ok (r, t)) : t = s := by
  unfold readZone at e
  split at e
  · exact query_state e
  · cases e

theorem readCell_state (e : readCell ops s = .ok (r, t)) : t = s := by
  unfold readCell at e
  split at e
  · exact query_state e
  · cases e

theorem readRoute_state (e : readRoute ops s = .ok (r, t)) : t = s := by
  unfold readRoute at e
  split at e
  · exact query_state e
  · cases e

theorem attach_zones (e : attach h s = .ok (r, t)) : t.zones = s.zones := by
  unfold attach at e
  split at e
  · cases e
  · split at e
    · cases e
    · cases e; exact s.setPanel_zones _ _

theorem detach_zones (e : detach h s = .ok (r, t)) : t.zones = s.zones := by
  unfold detach at e
  split at e
  · cases e
  · split at e
    · cases e; exact s.detachPanel_zones _ _
    · cases e

theorem fetchEvent_zones (e : fetchEvent h s = .ok (r, t)) : t.zones = s.zones := by
  unfold fetchEvent at e
  split at e
  · cases e
  · dsimp only at e
    split at e
    · cases e
    · split at e
      · split at e
        · cases e
        · cases e; exact s.setPanel_zones _ _
      · split at e
        · cases e
        · cases e; exact s.setPanel_zones _ _

theorem setTime_zones (e : setTime h ops s = .ok (r, t)) : t.zones = s.zones := by
  unfold setTime at e
  split at e
  · obtain ⟨-, -, e⟩ := bind_eq_ok_iff.mp e
    cases e
    rfl
  · cases e

theorem clearCellStatistics_zones (e : clearCellStatistics ops s = .ok (r, t)) : t.zones = s.zones := by
  unfold clearCellStatistics at e
  split at e
  · simp only [bind_eq_ok_iff] at e
    obtain ⟨c, -, -, -, e⟩ := e
    split at e
    · cases e
    · cases e; rfl
  · cases e

theorem moveDevice_zones (e : moveDevice ops s = .ok (r, t)) : t.zones = s.zones := by
  obtain ⟨i, j, -, -, -, -, rfl⟩ := moveDevice_ok e
  rfl

theorem cancelMove_zones (e : cancelMove ops s = .ok (r, t)) : t.zones = s.zones := by
  unfold cancelMove at e
  split at e
  · simp only [bind_eq_ok_iff] at e
    obtain ⟨i, -, -, -, e⟩ := e
    split at e
    · cases e
    · cases e; exact s.cancelled_zones _ _
  · cases e

theorem stopCell_zones (e : stopCell ops s = .ok (r, t)) : t.zones = s.zones := by
  unfold stopCell at e
  split at e
  · simp only [bind_eq_ok_iff] at e
    obtain ⟨c, -, -, -, e⟩ := e
    split at e
    · cases e; rfl
    · cases e
    · split at e
      · cases e; rfl
      · cases e
    · cases e; rfl
    · cases e
  · cases e

theorem startCell_zones (e : startCell ops s = .ok (r, t)) : t.zones = s.zones := by
  unfold startCell at e
  split at e
  · simp only [bind_eq_ok_iff] at e
    obtain ⟨c, -, -, -, e⟩ := e
    split at e
    · split at e
      · cases e
      · cases e; rfl
    · cases e; rfl
    · cases e
    · cases e
    · cases e
  · cases e

theorem restart_zones (e : restart h s = .ok (r, t)) : t.zones = s.zones := by
  cases e
  exact s.setPort_zones _ _

/-! ### Acknowledgement and reset (R113, R116, R118, R119) -/

theorem State.keepsZones_acknowledgeBy {z : ZoneIx} (hz : (s.zone z).inAlarm = true) (l : Link) :
    s.keepsZones (s.acknowledgeBy l z) := State.keepsZones_setZone_create fun sound => sound.withAck hz _

/-- An acknowledgement leaves which zones are in alarm (R113). -/
theorem State.acknowledgeBy_inAlarm (s : State) (l : Link) (z y : ZoneIx) :
    ((s.acknowledgeBy l z).zone y).inAlarm = (s.zone y).inAlarm := by
  unfold State.acknowledgeBy
  rw [State.create_zone, State.modZone_eq, State.zone_setZone]
  split
  · next e => subst e; rfl
  · rfl

theorem State.keepsZones_acknowledgeBy_foldl (l : Link) (zs : List ZoneIx) (s : State)
    (hz : ∀ z ∈ zs, (s.zone z).inAlarm = true) : s.keepsZones (zs.foldl (fun t z => t.acknowledgeBy l z) s) := by
  induction zs generalizing s with
  | nil => exact s.keepsZones_refl
  | cons z zs ih =>
    obtain ⟨first, rest⟩ := List.forall_mem_cons.mp hz
    exact (State.keepsZones_acknowledgeBy first l).trans
      (ih _ fun y hy => (s.acknowledgeBy_inAlarm l z y).trans (rest y hy))

theorem acknowledgeZone_keepsZones (e : acknowledgeZone h ops s = .ok (r, t)) : s.keepsZones t := by
  unfold acknowledgeZone at e
  split at e
  · simp only [bind_eq_ok_iff, check_eq_ok] at e
    obtain ⟨z, -, -, -, -, alarm, -, -, e⟩ := e
    split at e
    · cases e
    · cases e; exact State.keepsZones_acknowledgeBy alarm _
  · cases e

theorem acknowledgeAll_keepsZones (e : acknowledgeAll h ops s = .ok (r, t)) : s.keepsZones t := by
  unfold acknowledgeAll at e
  split at e
  · simp only [bind_eq_ok_iff] at e
    obtain ⟨-, -, -, -, e⟩ := e
    split at e
    · cases e
    · cases e
      refine State.keepsZones_acknowledgeBy_foldl _ _ s fun z hz => ?_
      have needed := (List.mem_filter.mp hz).2
      rw [Zone.needsAck, Bool.and_eq_true] at needed
      exact needed.1
  · cases e

/-- A change of the members' records leaves those of the zones. -/
theorem State.keepsZones_mapMembers (s : State) (z : ZoneIx) (f : Device → Device) :
    s.keepsZones (s.mapMembers z f) := State.keepsZones_of_eq (s.mapDevs_zones _)

theorem State.keepsZones_resetBy (s : State) (l : Link) (z : ZoneIx) : s.keepsZones (s.resetBy l z) :=
  ((s.keepsZones_mapMembers z _).trans (State.keepsZones_create _ _)).trans (State.keepsZones_recompute _ _)

theorem resetZone_keepsZones (e : resetZone h ops s = .ok (r, t)) : s.keepsZones t := by
  unfold resetZone at e
  split at e
  · simp only [bind_eq_ok_iff] at e
    obtain ⟨z, -, -, -, -, -, -, -, -, -, e⟩ := e
    cases e; exact s.keepsZones_resetBy _ _
  · cases e

theorem resetAll_keepsZones (e : resetAll h ops s = .ok (r, t)) : s.keepsZones t := by
  unfold resetAll at e
  split at e
  · simp only [bind_eq_ok_iff] at e
    obtain ⟨-, -, -, -, e⟩ := e
    split at e
    · cases e
    · split at e
      · cases e
      · cases e; exact State.keepsZones_foldl (fun u z => u.keepsZones_resetBy _ z) _ s
  · cases e

/-! ### Disablement, tests and profiles (R110, R111, R120 to R129) -/

theorem disableDevice_keepsZones (e : disableDevice h ops s = .ok (r, t)) : s.keepsZones t := by
  unfold disableDevice at e
  split at e
  · obtain ⟨i, -, e⟩ := bind_eq_ok_iff.mp e
    dsimp only at e
    split at e
    · cases e
    · split at e
      · cases e
        rw [State.firstDisable_eq]
        have disabled := (s.keepsZones_setDev i ((s.dev i).firstDisabled h.link)).trans
          (State.keepsZones_create _ (.deviceDisabled i h.link))
        exact State.keepsZones_ite (fun _ => disabled.trans (State.keepsZones_recompute _ _)) fun _ => disabled
      · cases e; exact s.keepsZones_setDev _ _
  · cases e

theorem enableDevice_keepsZones (e : enableDevice h ops s = .ok (r, t)) : s.keepsZones t := by
  unfold enableDevice at e
  split at e
  · obtain ⟨i, -, e⟩ := bind_eq_ok_iff.mp e
    dsimp only at e
    split at e
    · cases e
    · split at e
      · cases e
        exact ((s.keepsZones_setDev i _).trans (State.keepsZones_create _ _)).trans
          (State.keepsZones_deviceCounted _ _)
      · cases e; exact s.keepsZones_setDev _ _
  · cases e

/-- A zone disabled for the first time: its record, the end of its test, and the members' verification (R121). -/
theorem State.keepsZones_firstDisableZone (s : State) (l : Link) (z : ZoneIx) :
    s.keepsZones (s.firstDisableZone l z) := by
  have disabled : s.keepsZones ((s.modZone z fun r => { r with disabled := r.disabled.add l, test := none }).create
      (.zoneDisabled z l)) := State.keepsZones_setZone_create id
  refine .trans ?_ (State.keepsZones_recompute _ z)
  refine .trans ?_ (State.keepsZones_mapMembers _ z _)
  split
  · exact disabled.trans (State.keepsZones_create _ _)
  · exact disabled

theorem disableZone_keepsZones (e : disableZone h ops s = .ok (r, t)) : s.keepsZones t := by
  unfold disableZone at e
  split at e
  · simp only [bind_eq_ok_iff] at e
    obtain ⟨z, -, -, -, e⟩ := e
    split at e
    · cases e
    · split at e
      · cases e; exact s.keepsZones_firstDisableZone _ _
      · cases e; exact State.keepsZones_setZone id
  · cases e

theorem enableZone_keepsZones (e : enableZone h ops s = .ok (r, t)) : s.keepsZones t := by
  unfold enableZone at e
  split at e
  · simp only [bind_eq_ok_iff] at e
    obtain ⟨z, -, -, -, e⟩ := e
    split at e
    · cases e
    · split at e
      · cases e
        have enabled : s.keepsZones ((s.modZone z fun r => { r with disabled := r.disabled.remove h.link }).create
            (.zoneEnabled z h.link)) := State.keepsZones_setZone_create id
        exact enabled.trans (State.keepsZones_membersCounted _ _ _)
      · cases e; exact State.keepsZones_setZone id
  · cases e

theorem clearDisablements_keepsZones (e : clearDisablements s = .ok (r, t)) : s.keepsZones t := by
  have enabled : s.keepsZones { s.mapDevs fun _ d => { d with disabled := {} } with
      zones := Vector.ofFn fun z => { s.zone z with disabled := {} } } := fun z hz => by
    rw [State.zone, Fin.getElem_fin, Vector.getElem_ofFn]
    exact hz
  simp only [clearDisablements] at e
  split at e
  · cases e
  · cases e
    exact ((enabled.trans (State.keepsZones_createAll _ _)).trans (State.keepsZones_createAll _ _)).trans
      (State.keepsZones_foldl (fun u z => u.keepsZones_membersCounted z _) _ _)

theorem State.keepsZones_startTestBy (s : State) (l : Link) (z : ZoneIx) (minutes : Nat) :
    s.keepsZones (s.startTestBy l z minutes) := by
  have started : s.keepsZones (s.modZone z fun r =>
      { r with test := some { owner := l, expiry := s.runClock + 240 * minutes } }) := State.keepsZones_setZone id
  exact ((started.trans (State.keepsZones_mapMembers _ z _)).trans (State.keepsZones_create _ _)).trans
    (State.keepsZones_recompute _ _)

theorem startTest_keepsZones (e : startTest h ops s = .ok (r, t)) : s.keepsZones t := by
  unfold startTest at e
  split at e
  · simp only [bind_eq_ok_iff] at e
    obtain ⟨z, -, -, -, -, -, e⟩ := e
    split at e
    · cases e
      exact s.keepsZones_startTestBy _ _ _
    · split at e
      · cases e
      · split at e
        · cases e; exact State.keepsZones_setZone id
        · cases e
  · cases e

theorem State.keepsZones_endTestOf (s : State) (z : ZoneIx) (l : Link) (c : TestEnd) :
    s.keepsZones (s.endTestOf z l c) := by
  have ended : s.keepsZones ((s.modZone z fun r => { r with test := none }).create (.testEnded z l c)) :=
    State.keepsZones_setZone_create id
  exact ended.trans (State.keepsZones_recompute _ _)

theorem endTest_keepsZones (e : endTest h ops s = .ok (r, t)) : s.keepsZones t := by
  unfold endTest at e
  split at e
  · simp only [bind_eq_ok_iff] at e
    obtain ⟨z, -, -, -, e⟩ := e
    split at e
    · cases e
    · split at e
      · cases e
      · cases e; exact s.keepsZones_endTestOf _ _ _
  · cases e

/-- A profile expiry is set with the Service profile and removed with the Normal one (R110, R129). -/
theorem Zone.sound.withService {x : Zone} (hx : x.sound) (n : Nat) :
    ({ x with profile := .service, profileExpiry := some n } : Zone).sound := ⟨hx.1, hx.2.1, by simp⟩

theorem Zone.sound.withNormal {x : Zone} (hx : x.sound) :
    ({ x with profile := .normal, profileExpiry := none } : Zone).sound := ⟨hx.1, hx.2.1, by simp⟩

theorem State.keepsZones_endProfile (s : State) (z : ZoneIx) : s.keepsZones (s.endProfile z) :=
  State.keepsZones_setZone_create Zone.sound.withNormal

theorem selectProfile_keepsZones (e : selectProfile h ops s = .ok (r, t)) : s.keepsZones t := by
  unfold selectProfile at e
  split at e
  · simp only [bind_eq_ok_iff] at e
    obtain ⟨z, -, -, -, e⟩ := e
    split at e
    · cases e
    · split at e
      · cases e
      · cases e; exact State.keepsZones_setZone_create Zone.sound.withNormal
    · cases e; exact State.keepsZones_setZone_create fun sound => sound.withService _
  · cases e

end Sys2Proof.Machine

/-! ## Every step keeps the zone records sound -/

namespace Sys2Proof.Machine

variable {s t u : State} {h : FrameHead} {ops : List Byte}

/-- A taken frame of any command keeps the zone records sound. -/
theorem takeCommand_keepsZones (c : Command) (e : takeCommand c h ops s = .next t) : s.keepsZones t := by
  cases c with
  | readStatus => cases e; exact State.keepsZones_command_of_eq fun e => by cases e; rfl
  | readDevice => cases e; exact State.keepsZones_command_of_eq fun e => by rw [readDevice_state e]
  | readZone => cases e; exact State.keepsZones_command_of_eq fun e => by rw [readZone_state e]
  | readCell => cases e; exact State.keepsZones_command_of_eq fun e => by rw [readCell_state e]
  | readRoute => cases e; exact State.keepsZones_command_of_eq fun e => by rw [readRoute_state e]
  | readIdentity => cases e; exact State.keepsZones_command_of_eq fun e => by cases e; rfl
  | attach => cases e; exact State.keepsZones_command_of_eq attach_zones
  | detach => cases e; exact State.keepsZones_command_of_eq detach_zones
  | fetchEvent => cases e; exact State.keepsZones_command_of_eq fetchEvent_zones
  | acknowledgeZone => cases e; exact State.keepsZones_command acknowledgeZone_keepsZones
  | resetZone => cases e; exact State.keepsZones_command resetZone_keepsZones
  | acknowledgeAll => cases e; exact State.keepsZones_command acknowledgeAll_keepsZones
  | resetAll => cases e; exact State.keepsZones_command resetAll_keepsZones
  | disableDevice => cases e; exact State.keepsZones_command disableDevice_keepsZones
  | enableDevice => cases e; exact State.keepsZones_command enableDevice_keepsZones
  | disableZone => cases e; exact State.keepsZones_command disableZone_keepsZones
  | enableZone => cases e; exact State.keepsZones_command enableZone_keepsZones
  | startTest => cases e; exact State.keepsZones_command startTest_keepsZones
  | endTest => cases e; exact State.keepsZones_command endTest_keepsZones
  | selectProfile => cases e; exact State.keepsZones_command selectProfile_keepsZones
  | setTime => cases e; exact State.keepsZones_command_of_eq setTime_zones
  | clearCellStatistics => cases e; exact State.keepsZones_command_of_eq clearCellStatistics_zones
  | moveDevice => cases e; exact State.keepsZones_command_of_eq moveDevice_zones
  | cancelMove => cases e; exact State.keepsZones_command_of_eq cancelMove_zones
  | stopCell => cases e; exact State.keepsZones_command_of_eq stopCell_zones
  | startCell => cases e; exact State.keepsZones_command_of_eq startCell_zones
  | clearDisablements => cases e; exact State.keepsZones_command clearDisablements_keepsZones
  | restart => cases e; exact State.keepsZones_command_of_eq restart_zones
  | enrolDevice | removeDevice | pinRoute | unpinRoute | setZoneParameters | setSiteParameters | setCellChannel =>
    cases e; exact State.keepsZones_writeCommand

theorem State.keepsZones_hunt (s : State) (l : Link) : s.keepsZones (s.hunt l) :=
  State.keepsZones_of_eq (s.setPort_zones l _)

theorem State.keepsZones_whenRunning {f : State → State} (hf : s.keepsZones (f s)) : s.keepsZones (s.whenRunning f) :=
  State.keepsZones_ite (fun _ => hf) fun _ => s.keepsZones_refl

theorem takeFrame_keepsZones {code : Byte} (e : takeFrame h code ops s = .next t) : s.keepsZones t := by
  unfold takeFrame at e
  split at e
  · exact takeCommand_keepsZones _ e
  · cases e
    refine State.keepsZones_whenRunning (State.keepsZones_of_eq ?_)
    rcases s.onFrame_cases h fun s => s.reply h { result := .unknownCommand } with e | ⟨r, e⟩ | ⟨-, -, -, e⟩
    · rw [e]; exact s.setPort_zones _ _
    · rw [e]; exact (State.answer_zones _ _ _ _).trans (s.taken_zones h)
    · rw [e]; exact (State.answer_zones _ _ _ _).trans (s.taken_zones h)

theorem byteReceived_keepsZones {l : Link} {key : Bool} {b : Byte} (e : byteReceived l key b s = .next t) :
    s.keepsZones t := by
  unfold byteReceived at e
  split at e
  · split at e
    · unfold takeBytes at e
      split at e
      · exact takeFrame_keepsZones e
      · cases e; exact s.keepsZones_hunt l
    · cases e; exact s.keepsZones_hunt l
  · cases e; exact State.keepsZones_of_eq (s.setPort_zones l _)

/-- A command that arrives as a frame is that frame taken by its code (R150, R155; log 1). -/
theorem exec_of_frame {c : Instr} {code : Byte} (hf : c.frame = some (h, code, ops)) :
    exec c s = takeFrame h code ops s := by
  cases c <;> cases hf <;> rfl

/-! ### Write ends and start-up -/

/-- The end of a command write whose working change keeps the zone records sound (R152, R168). -/
theorem State.keepsZones_writeEnd (s : State) (v : Bool) {apply : CommandWrite → Option (State → State)}
    (h : ∀ {w f}, apply w = some f → ∀ u : State, u.keepsZones (f u)) :
    s.keepsZones (s.whenRunning fun s => s.commandWriteEnd v apply) := by
  refine State.keepsZones_whenRunning ?_
  have ended : ∀ v, s.keepsZones (s.endWrite v) := fun v => State.keepsZones_of_eq (s.endWrite_zones v)
  have finished : ∀ (u : State) r, u.keepsZones (u.finishCommand r) := fun u r =>
    State.keepsZones_of_eq (u.finishCommand_zones r)
  rcases s.commandWriteEnd_cases v apply with e | ⟨a, w, f, -, -, hf, e | e⟩
  · rw [e]; exact s.keepsZones_refl
  · rw [e]; exact ((ended true).trans (h hf _)).trans (finished _ _)
  · rw [e]; exact (ended false).trans (finished _ _)

/-- The working changes of the command writes: a removal recomputes its zone and new parameters are taken by theirs;
the others leave the zones (R8, R15, R31, R59, R60, R93, R159). -/
theorem enrolApply_keepsZones {w : CommandWrite} {f : State → State} (hf : enrolApply w = some f) (u : State) :
    u.keepsZones (f u) := by
  unfold enrolApply at hf
  split at hf
  · cases hf; exact u.keepsZones_setDev _ _
  · cases hf

theorem removeApply_keepsZones {w : CommandWrite} {f : State → State} (hf : removeApply w = some f) (u : State) :
    u.keepsZones (f u) := by
  unfold removeApply at hf
  split at hf
  · cases hf
    dsimp only [State.removedWrite]
    split
    · exact u.keepsZones_removed _
    · exact u.keepsZones_refl
  · cases hf

theorem pinApply_keepsZones {w : CommandWrite} {f : State → State} (hf : pinApply w = some f) (u : State) :
    u.keepsZones (f u) := by
  unfold pinApply at hf
  split at hf
  · cases hf; exact State.keepsZones_of_eq (u.routesWrite_zones _ _ _)
  · cases hf

theorem unpinApply_keepsZones {w : CommandWrite} {f : State → State} (hf : unpinApply w = some f) (u : State) :
    u.keepsZones (f u) := by
  unfold unpinApply at hf
  split at hf
  · cases hf; exact State.keepsZones_of_eq (u.routesWrite_zones _ _ _)
  · cases hf

theorem zoneApply_keepsZones {w : CommandWrite} {f : State → State} (hf : zoneApply w = some f) (u : State) :
    u.keepsZones (f u) := by
  unfold zoneApply at hf
  split at hf
  · cases hf; exact u.keepsZones_withParams _ _
  · cases hf

theorem siteApply_keepsZones {w : CommandWrite} {f : State → State} (hf : siteApply w = some f) (u : State) :
    u.keepsZones (f u) := by
  unfold siteApply at hf
  split at hf
  · cases hf; exact State.keepsZones_of_eq (State.mapDevs_zones _ _)
  · cases hf

theorem channelApply_keepsZones {w : CommandWrite} {f : State → State} (hf : channelApply w = some f) (u : State) :
    u.keepsZones (f u) := by
  unfold channelApply at hf
  split at hf
  · cases hf; exact u.keepsZones_setCell _ _
  · cases hf

/-- Start-up restores every zone Quiet on its Normal profile, without acknowledgement (R173). -/
theorem State.finishStartUp_zonesSound {fitted : Vector Bool 4} (hp : s.phase = .probing fitted) (key : Bool) :
    (s.finishStartUp key).zonesSound := by
  have restored : ∀ im : Image, (s.restoredFrom im fitted key).zonesSound := fun im z => by
    rw [State.zone, State.restoredFrom, Fin.getElem_fin, Vector.getElem_ofFn]
    exact ⟨by simp, by simp, by simp⟩
  have same : (s.finishStartUp key).zones =
      (s.restoredFrom (s.store.inForce.getD defaultImage) fitted key).zones := by
    rw [State.finishStartUp, hp]
    dsimp only
    rw [State.prepared_beaconed]
  exact fun z => State.keepsZones_of_eq same z (restored _ z)

theorem State.keepsZones_finishStartUp (s : State) (key : Bool) : s.keepsZones (s.finishStartUp key) := by
  cases hp : s.phase with
  | probing fitted => exact fun z _ => State.finishStartUp_zonesSound hp key z
  | held => rw [State.finishStartUp, hp]; exact s.keepsZones_refl
  | running => rw [State.finishStartUp, hp]; exact s.keepsZones_refl

theorem State.keepsZones_probeAnswered (s : State) (c : CellIx) : s.keepsZones (s.probeAnswered c) := by
  unfold State.probeAnswered
  split
  · exact State.keepsZones_of_eq rfl
  · exact s.keepsZones_refl
  · exact s.keepsZones_refl

/-! ### The step -/

/-- Every command and event keeps the zone records sound. -/
theorem exec_keepsZones (c : Instr) (e : exec c s = .next t) : s.keepsZones t := by
  cases hf : c.frame with
  | some x => exact takeFrame_keepsZones (exec_of_frame hf ▸ e)
  | none =>
    cases c with
    | enrolDeviceWriteEnd v => cases e; exact s.keepsZones_writeEnd v enrolApply_keepsZones
    | removeDeviceWriteEnd v => cases e; exact s.keepsZones_writeEnd v removeApply_keepsZones
    | pinRouteWriteEnd v => cases e; exact s.keepsZones_writeEnd v pinApply_keepsZones
    | unpinRouteWriteEnd v => cases e; exact s.keepsZones_writeEnd v unpinApply_keepsZones
    | setZoneParametersWriteEnd v => cases e; exact s.keepsZones_writeEnd v zoneApply_keepsZones
    | setSiteParametersWriteEnd v => cases e; exact s.keepsZones_writeEnd v siteApply_keepsZones
    | setCellChannelWriteEnd v => cases e; exact s.keepsZones_writeEnd v channelApply_keepsZones
    | rosterWriteEnd v =>
      cases e; exact State.keepsZones_whenRunning (State.keepsZones_of_eq (s.rosterWriteEnd_zones v))
    | storeWriteStart => cases e; exact State.keepsZones_whenRunning (State.keepsZones_of_eq s.startWaiting_zones)
    | frameCrcDiscard l => cases e; exact State.keepsZones_whenRunning (s.keepsZones_hunt l)
    | frameGapTimeout l => cases e; exact State.keepsZones_whenRunning (s.keepsZones_hunt l)
    | responseWhollySent l =>
      cases e; exact State.keepsZones_whenRunning (State.keepsZones_of_eq (s.setPort_zones l _))
    | linkSilence p =>
      cases e
      exact State.keepsZones_whenRunning (State.keepsZones_ite
        (fun _ => State.keepsZones_of_eq (s.detachPanel_zones p .silence)) fun _ => s.keepsZones_refl)
    | frameByteReceived l key b =>
      change execFrameByteReceived l key b s = .next t at e
      unfold execFrameByteReceived at e
      split at e
      · exact byteReceived_keepsZones e
      · cases e; exact s.keepsZones_refl
    | receivedCopy c x => cases e; exact State.keepsZones_whenRunning (s.keepsZones_receiveCopy c x)
    | downlinkAssembly c =>
      cases e; exact State.keepsZones_whenRunning (State.keepsZones_of_eq (s.assemble_zones c))
    | transmitConfirm c x =>
      cases e; exact State.keepsZones_whenRunning (State.keepsZones_of_eq (s.confirm_zones c x))
    | intervalEnd => cases e; exact State.keepsZones_whenRunning (State.keepsZones_of_eq s.endInterval_zones)
    | superframeBoundary =>
      cases e
      exact State.keepsZones_whenRunning (State.keepsZones_ite
        (fun _ => State.keepsZones_of_eq s.atSuperframe.superframeBoundary_zones) fun _ => s.keepsZones_refl)
    | cycleBoundary =>
      cases e
      exact State.keepsZones_whenRunning (State.keepsZones_ite
        (fun _ => State.keepsZones_of_eq s.atBoundary.cycleBoundary_zones) fun _ => s.keepsZones_refl)
    | enrolmentDeadline i =>
      cases e
      obtain ⟨-, -, -, zones, -⟩ := s.timeOut_frame i
      exact State.keepsZones_whenRunning (State.keepsZones_ite
        (fun _ => State.keepsZones_of_eq zones) fun _ => s.keepsZones_refl)
    | corroborationLapse z =>
      cases e
      exact State.keepsZones_whenRunning (State.keepsZones_ite
        (fun _ => s.keepsZones_lapse z) fun _ => s.keepsZones_refl)
    | profileExpiry z =>
      cases e
      exact State.keepsZones_whenRunning (State.keepsZones_ite
        (fun _ => s.keepsZones_endProfile z) fun _ => s.keepsZones_refl)
    | testExpiry z =>
      cases e
      refine State.keepsZones_whenRunning ?_
      split
      · exact s.keepsZones_endTestOf _ _ _
      · exact s.keepsZones_refl
    | powerLossOrReset => cases e; exact State.keepsZones_of_eq rfl
    | startUp =>
      cases e
      exact State.keepsZones_ite (fun _ => State.keepsZones_of_eq rfl) fun _ => s.keepsZones_refl
    | restartStartUp =>
      cases e
      exact State.keepsZones_whenRunning (State.keepsZones_ite
        (fun _ => State.keepsZones_of_eq rfl) fun _ => s.keepsZones_refl)
    | probeAnswer c => cases e; exact s.keepsZones_probeAnswered c
    | probeTimeout key => cases e; exact s.keepsZones_finishStartUp key
    | _ => cases hf

/-- Settles O57: the fields that the law reads change with a recomputation, an acknowledgement of a zone in alarm, a
profile and at start-up alone, and each of these keeps a record sound; the other steps leave them. -/
theorem stepKeepsZoneLaws : Obligations.StepKeepsZoneLaws := by
  intro s t hs e z
  refine (?_ : s.keepsZones t) z (hs z)
  unfold step at e
  split at e
  · cases e; exact s.keepsZones_refl
  · next c rest _ =>
    have unqueued : s.keepsZones { s with pending := rest } := State.keepsZones_of_eq rfl
    exact unqueued.trans (exec_keepsZones c e)

end Sys2Proof.Machine

/-! ## A latch taken by case (R98 to R101) -/

namespace Sys2Proof.Machine

variable {s : State} {d : Device}

theorem LinkSet.isEmpty_eq_false_iff {x : LinkSet} : x.isEmpty = false ↔ x ≠ {} := by
  rw [← Bool.not_eq_true, LinkSet.isEmpty_iff]

/-- The latch clear of a test activation, the whole record (R87, R100). -/
theorem Device.latchCleared_eq (d : Device) :
    d.latchCleared = { d with cond := .quiet, verif := if d.kind = .smoke then {} else d.verif } :=
  d.latchCleared_with .quiet

/-- Settles O45: the two tests of R98 in their order, with the latch clear and the beginning of a counted latch written
out. -/
theorem latchTakenByCase : Obligations.LatchTakenByCase := by
  intro s i level elapsed d z r
  have tested : (s.create (.testActivation i z level)).modDev i Device.latchCleared =
      (s.create (.testActivation i z level)).setDev i
        { d with cond := .quiet, verif := if d.kind = .smoke then {} else d.verif } := by
    rw [State.modDev_eq, State.create_dev, Device.latchCleared_eq]
  have disabled : (!d.disabled.isEmpty || !r.disabled.isEmpty) = true ↔ d.disabled ≠ {} ∨ r.disabled ≠ {} := by
    simp [LinkSet.isEmpty_eq_false_iff]
  exact if_congr .rfl tested (if_congr disabled rfl rfl)

end Sys2Proof.Machine

/-! ## The roll-up by mode (R95, R103, R104) -/

namespace Sys2Proof.Machine

variable {s : State} {z : ZoneIx} {p : DevIx → Device → Bool}

theorem State.one_le_countDevs : 1 ≤ s.countDevs p ↔ ∃ i, p i (s.dev i) = true := by
  rw [State.countDevs, Nat.succ_le_iff, List.length_pos_iff_exists_mem]
  simp [mem_allDevs]

theorem State.two_le_countDevs :
    2 ≤ s.countDevs p ↔ ∃ i k, i ≠ k ∧ p i (s.dev i) = true ∧ p k (s.dev k) = true := by
  have nodup : (allDevs.filter fun i => p i (s.dev i)).Nodup := (List.nodup_finRange 192).filter _
  rw [State.countDevs, ← List.toFinset_card_of_nodup nodup, Nat.succ_le_iff, Finset.one_lt_card_iff]
  simp only [List.mem_toFinset, List.mem_filter, mem_allDevs, true_and]
  exact exists_congr fun i => exists_congr fun k => by tauto

/-- A counted member of a zone (R91, R95). -/
theorem State.countedMember_iff {d : Device} : s.countedMember z d = true ↔
    d.life.owns = true ∧ d.kind ≠ .repeater ∧ d.zone = z ∧ d.disabled = {} ∧ (s.zone z).disabled = {} ∧
      (s.zone z).test = none := by
  have present : d.life.owns = true → d.life ≠ .vacant := Life.ne_vacant_of_owns
  simp only [State.countedMember, Device.memberOf, Device.countedIn, Bool.and_eq_true, bne_iff_ne, beq_iff_eq,
    LinkSet.isEmpty_iff, Option.isNone_iff_eq_none]
  tauto

/-- A disabled zone is Quiet (R103). -/
theorem State.rollUp_of_disabled (hd : (s.zone z).disabled ≠ {}) : s.rollUp z = .quiet := by
  unfold State.rollUp
  dsimp only
  rw [if_pos (by simpa [LinkSet.isEmpty_eq_false_iff] using hd)]

/-- The condition of an enabled zone from the numbers of its counted members that are latched, that are latched Call
Points and that are in PreAlarm (R103, R104). -/
def condByMode (mode : Mode) (latched callPoints preAlarm : Nat) : ZoneCond :=
  match mode with
  | .single => if 1 ≤ latched then .fire else if 1 ≤ preAlarm then .preAlarm else .quiet
  | .corroborated =>
    if 2 ≤ latched ∨ 1 ≤ callPoints then .fire
    else if latched = 1 then .alerted
    else if 1 ≤ preAlarm then .preAlarm
    else .quiet

theorem State.rollUp_of_enabled (hd : (s.zone z).disabled = {}) : s.rollUp z =
    condByMode (s.zone z).params.mode (s.countedWith z fun d => d.cond == .fireLatched)
      (s.countedWith z fun d => d.cond == .fireLatched && d.kind == .callPoint)
      (s.countedWith z fun d => d.cond == .preAlarm) := by
  unfold State.rollUp condByMode
  dsimp only
  rw [if_neg (by simp [LinkSet.isEmpty_iff.mpr hd])]
  cases (s.zone z).params.mode with
  | single => rfl
  | corroborated => simp only [Bool.or_eq_true, decide_eq_true_eq]

/-- Which numbers make an enabled zone Fire, Alerted and PreAlarm (R103, R104). -/
theorem condByMode_iff (mode : Mode) (latched callPoints preAlarm : Nat) :
    let fire := if mode = .single then 1 ≤ latched else 2 ≤ latched ∨ 1 ≤ callPoints
    (condByMode mode latched callPoints preAlarm = .fire ↔ fire) ∧
      (condByMode mode latched callPoints preAlarm = .alerted ↔ ¬fire ∧ mode = .corroborated ∧ 1 ≤ latched) ∧
      (condByMode mode latched callPoints preAlarm = .preAlarm ↔ ¬fire ∧ ¬1 ≤ latched ∧ 1 ≤ preAlarm) := by
  cases mode with
  | single =>
    simp only [condByMode, if_true]
    split
    · next h => simp [h]
    · next h => split <;> simp [*]
  | corroborated =>
    simp only [condByMode, reduceCtorEq, if_false, true_and]
    split
    · next h => simp [h]
    · next h =>
      have few : latched = 1 ↔ 1 ≤ latched := by omega
      simp only [few]
      split
      · next one => simp [h, one]
      · next none => split <;> simp [*]

/-- Settles O46: a disabled zone counts nobody, and an enabled one is decided by the three numbers of its mode. -/
theorem rollUpByMode : Obligations.RollUpByMode := by
  intro s z r counted latched pair callPoint fire
  have member : ∀ i, s.countedMember z (s.dev i) = true ↔ counted i := fun i => State.countedMember_iff
  have anyLatched : 1 ≤ s.countedWith z (fun d => d.cond == .fireLatched) ↔ ∃ i, latched i := by
    simp only [State.countedWith, State.one_le_countDevs, Bool.and_eq_true, beq_iff_eq, member]
    rfl
  have twoLatched : 2 ≤ s.countedWith z (fun d => d.cond == .fireLatched) ↔ pair := by
    simp only [State.countedWith, State.two_le_countDevs, Bool.and_eq_true, beq_iff_eq, member]
    rfl
  have oneCallPoint : 1 ≤ s.countedWith z (fun d => d.cond == .fireLatched && d.kind == .callPoint) ↔ callPoint := by
    simp only [State.countedWith, State.one_le_countDevs, Bool.and_eq_true, beq_iff_eq, member, ← and_assoc]
    rfl
  have anyPreAlarm : 1 ≤ s.countedWith z (fun d => d.cond == .preAlarm) ↔
      ∃ i, counted i ∧ (s.dev i).cond = .preAlarm := by
    simp only [State.countedWith, State.one_le_countDevs, Bool.and_eq_true, beq_iff_eq, member]
  by_cases hd : r.disabled = {}
  · have fireIff : fire ↔ if r.params.mode = .single then ∃ i, latched i else pair ∨ callPoint := and_iff_right hd
    rw [State.rollUp_of_enabled hd, fireIff, ← anyLatched, ← twoLatched, ← oneCallPoint, ← anyPreAlarm]
    exact condByMode_iff _ _ _ _
  · have uncounted : ∀ i, ¬counted i := fun i hi => hd hi.2.2.2.2.1
    rw [State.rollUp_of_disabled hd]
    simp [fire, latched, hd, uncounted]

end Sys2Proof.Machine

/-! ## Reset and the first start-up (R170 to R173) -/

namespace Sys2Proof.Machine

/-- The state that the first start-up leaves while it probes: both banks are erased, so that no image is in force
(R171; log 4). -/
theorem State.reset_beginStartUp_store : State.reset.beginStartUp.store = {} := rfl

/-- Settles O2: with no image in force and no transceiver answering, the end of the probe restores the default
configuration with every cell Absent. -/
theorem resetThenStartUpDefaults : Obligations.ResetThenStartUpDefaults := by
  refine ⟨rfl, State.reset.beginStartUp, ?_⟩
  obtain ⟨u, runs, phase, -, time, runClock, siteTime, siteCount, site, -, events, nextSeq, portA, portB, portS, panelA,
    panelB, store, zones, devs, -, cells⟩ := startUpRestoresImage.1 State.reset.beginStartUp (Vector.replicate 4 false)
      defaultImage false rfl (.inr ⟨rfl, rfl, rfl, rfl, rfl⟩)
  refine ⟨u, rfl, runs, phase, by rw [store]; rfl, by rw [store]; rfl, events, nextSeq, runClock, siteTime, siteCount,
    time, site, panelA, panelB, portA, portB, portS, fun i => devs i (by simp [defaultImage]), fun z => ?_, fun c => ?_⟩
  · rw [zones]
    simp [defaultImage]
  · rw [(cells c).2 (by simp)]
    exact ⟨rfl, by revert c; decide, rfl⟩

end Sys2Proof.Machine

/-! ## Start Test, End Test and the expiry of a test (R111, R126 to R128) -/

namespace Sys2Proof.Machine

variable {s : State} {h : FrameHead} {b m : Byte} {z : ZoneIx}

/-- What a zone reset and a test start do to a record of any zone (R116, R126). -/
theorem resetRecord_eq (z : ZoneIx) (d : Device) : resetRecord z d = if d.memberOf z then d.resetCleared else d := by
  have member : d.memberOf z = true ↔ d.life ≠ .vacant ∧ d.kind ≠ .repeater ∧ d.zone = z := by
    simp [Device.memberOf, and_assoc]
  unfold resetRecord
  refine if_congr member.symm ?_ rfl
  unfold Device.resetCleared
  split
  · exact d.latchCleared_eq.symm
  · unfold Device.verifCleared
    split
    · rfl
    · rfl

/-- The start of a test with its expiry (R126). -/
theorem State.startTestBy_eq (s : State) (l : Link) (z : ZoneIx) (n : Nat) : s.startTestBy l z n =
    (((s.setZone z { s.zone z with test := some { owner := l, expiry := s.runClock + 240 * n } }).mapDevs
      fun _ d => resetRecord z d).create (.testStarted z l n)).recompute z := by
  simp only [resetRecord_eq]
  rfl

theorem State.startTestBy_port (s : State) (l k : Link) (z : ZoneIx) (n : Nat) :
    (s.startTestBy l z n).port k = s.port k := by
  simp [State.startTestBy_eq]

theorem State.endTestOf_port (s : State) (l k : Link) (z : ZoneIx) (c : TestEnd) :
    (s.endTestOf z l c).port k = s.port k := by
  simp [State.endTestOf]

/-- The checks of Start Test from an attached link in their order, and its effect (R126, R127). -/
theorem startTest_eq (hb : b.toNat = z.val) (hm : s.mayOperate h.link = true) :
    startTest h [b, m] s =
      if (s.zone z).disabled ≠ {} then .error { result := .zoneDisabled }
      else
        match (s.zone z).test with
        | none => .ok (doneReply (testMinutes m), s.startTestBy h.link z (testMinutes m))
        | some x =>
          if x.owner ≠ h.link then .error { result := .wrongState, value := x.owner.code }
          else if x.expiry < s.runClock + 240 * testMinutes m then
            .ok (doneReply (testMinutes m), s.setZone z { s.zone z with
              test := some { owner := h.link, expiry := s.runClock + 240 * testMinutes m } })
          else .error { result := .noChange } := by
  simp only [startTest, zoneTarget_of_eq hb, ok_bind, State.checkAttached, check_of hm]
  by_cases hd : (s.zone z).disabled ≠ {}
  · rw [if_pos hd, check_of_not (LinkSet.isEmpty_eq_false_iff.mpr hd)]
    rfl
  · rw [if_neg hd, check_of (LinkSet.isEmpty_iff.mpr (not_not.mp hd)), ok_bind]
    cases (s.zone z).test with
    | none => rfl
    | some x =>
      by_cases owner : x.owner = h.link
      · rw [← owner]
        rfl
      · exact (if_pos owner).trans (if_pos owner).symm

/-- The checks of End Test from an attached link in their order, and its effect (R128). -/
theorem endTest_eq (hb : b.toNat = z.val) (hm : s.mayOperate h.link = true) :
    endTest h [b] s =
      match (s.zone z).test with
      | none => .error { result := .noChange }
      | some x =>
        if x.owner ≠ h.link ∧ h.link ≠ .S then .error { result := .wrongState, value := x.owner.code }
        else .ok (doneReply, s.endTestOf z x.owner (.link h.link)) := by
  simp only [endTest, zoneTarget_of_eq hb, ok_bind, State.checkAttached, check_of hm]
  rfl

/-- TEST_EXPIRY ends a test when its expiry has been reached (R111). -/
theorem exec_testExpiry (hp : s.phase = .running) (z : ZoneIx) : exec (.testExpiry z) s = .next
    (match (s.zone z).test with
    | none => s
    | some x => if x.expiry ≤ s.runClock then s.endTestOf z x.owner .expiry else s) := by
  change Host.Outcome.next (s.whenRunning fun s =>
    match s.expiredTest z with
    | some x => s.endTestOf z x.owner .expiry
    | none => s) = _
  rw [State.whenRunning, if_pos hp, State.expiredTest]
  cases (s.zone z).test with
  | none => rfl
  | some x =>
    rw [Option.filter_some]
    by_cases expired : x.expiry ≤ s.runClock
    · rw [if_pos (decide_eq_true expired)]
      exact congrArg _ (if_pos expired).symm
    · rw [if_neg (mt of_decide_eq_true expired)]
      exact congrArg _ (if_neg expired).symm

/-- Settles O16: each clause reads one branch of the checks of R126 to R128, or of the expiry's test. -/
theorem testsStartAndEnd : Obligations.TestsStartAndEnd := by
  refine ⟨fun s h b m z ht hm hb => ?_, fun s z => ⟨fun h b ht hm hb => ?_, fun hp => ?_⟩⟩
  · have refused : ∀ {r v}, startTest h [b, m] (s.taken h) = .error { result := r, value := v } →
        s.refuses h r v (exec (.startTest h [b, m]) s) := fun e => State.command_refuses ht rfl e
    have done : ∀ {r t}, startTest h [b, m] (s.taken h) = .ok (r, t) → t.port h.link = (s.taken h).port h.link →
        exec (.startTest h [b, m]) s = .next (t.sends h.link h.tag r) :=
      fun e port => congrArg _ (State.command_carried ht rfl e (State.answers_of_port ht.answers port))
    have decided := startTest_eq (s := s.taken h) (m := m) hb (by simpa using hm)
    simp only [State.taken_zone, State.taken_runClock] at decided
    refine next_ite_of_eq_ite decided refused fun decided => ?_
    cases test : (s.zone z).test with
    | none =>
      rw [test] at decided
      refine (done decided (State.startTestBy_port _ _ _ _ _)).trans ?_
      rw [State.startTestBy_eq, State.taken_zone, State.taken_runClock]
      rfl
    | some x =>
      rw [test] at decided
      refine next_ite_of_eq_ite decided refused fun decided => ?_
      exact next_ite_of_eq_ite decided (fun decided => done decided (State.setZone_port _ _ _ _)) refused
  · have refused : ∀ {r v}, endTest h [b] (s.taken h) = .error { result := r, value := v } →
        s.refuses h r v (exec (.endTest h [b]) s) := fun e => State.command_refuses ht rfl e
    have done : ∀ {r t}, endTest h [b] (s.taken h) = .ok (r, t) → t.port h.link = (s.taken h).port h.link →
        exec (.endTest h [b]) s = .next (t.sends h.link h.tag r) :=
      fun e port => congrArg _ (State.command_carried ht rfl e (State.answers_of_port ht.answers port))
    have decided := endTest_eq (s := s.taken h) hb (by simpa using hm)
    simp only [State.taken_zone] at decided
    cases test : (s.zone z).test with
    | none =>
      rw [test] at decided
      exact refused decided
    | some x =>
      rw [test] at decided
      refine next_ite_of_eq_ite decided refused fun decided => ?_
      refine (done decided (State.endTestOf_port _ _ _ _ _)).trans ?_
      rw [State.endTestOf, State.modZone_eq, State.taken_zone]
      rfl
  · exact exec_testExpiry hp z

end Sys2Proof.Machine

/-! ## What begun latches and recomputations leave (R99, R102, R105) -/

namespace Sys2Proof.Machine

variable {s t u : State} {z : ZoneIx}

/-- A kept latch's level reads the parameters of its zone alone (R102). -/
theorem standingLevel_congr {r r' : Zone} (h : r'.params = r.params) (d : Device) :
    standingLevel d r' = standingLevel d r := by
  simp only [standingLevel, h]

/-- A counted latch's beginning changes the generation of its zone's record alone (R99). -/
theorem State.beginLatch_zone (s : State) (i : DevIx) (level elapsed : Nat) (y : ZoneIx) :
    ∃ g, (s.beginLatch i level elapsed).zone y = { s.zone y with generation := g } := by
  have begun : (s.beginLatch i level elapsed).zone y = (s.setZone (s.dev i).zone
      { s.zone (s.dev i).zone with generation := (s.zone (s.dev i).zone).generation + 1 }).zone y :=
    State.create_zone _ _ y
  rw [begun, State.zone_setZone]
  split
  · next e => exact ⟨_, by rw [e]⟩
  · exact ⟨(s.zone y).generation, rfl⟩

/-- What latches that begin and zones that are recomputed leave: the records, the cells, the store, the links, the
clocks, and of each zone what decides whether its members are counted, its profile and its parameters. -/
structure State.recounts (s t : State) : Prop where
  roster : t.roster = s.roster
  cells : t.cells = s.cells
  store : t.store = s.store
  site : t.site = s.site
  time : t.time = s.time
  runClock : t.runClock = s.runClock
  port : ∀ l, t.port l = s.port l
  disabled : ∀ y, (t.zone y).disabled = (s.zone y).disabled
  test : ∀ y, (t.zone y).test = (s.zone y).test
  profile : ∀ y, (t.zone y).profile = (s.zone y).profile
  profileExpiry : ∀ y, (t.zone y).profileExpiry = (s.zone y).profileExpiry
  params : ∀ y, (t.zone y).params = (s.zone y).params

theorem State.recounts_refl (s : State) : s.recounts s :=
  ⟨rfl, rfl, rfl, rfl, rfl, rfl, fun _ => rfl, fun _ => rfl, fun _ => rfl, fun _ => rfl, fun _ => rfl, fun _ => rfl⟩

theorem State.recounts.trans (h : s.recounts t) (h' : t.recounts u) : s.recounts u where
  roster := h'.roster.trans h.roster
  cells := h'.cells.trans h.cells
  store := h'.store.trans h.store
  site := h'.site.trans h.site
  time := h'.time.trans h.time
  runClock := h'.runClock.trans h.runClock
  port l := (h'.port l).trans (h.port l)
  disabled y := (h'.disabled y).trans (h.disabled y)
  test y := (h'.test y).trans (h.test y)
  profile y := (h'.profile y).trans (h.profile y)
  profileExpiry y := (h'.profileExpiry y).trans (h.profileExpiry y)
  params y := (h'.params y).trans (h.params y)

theorem State.recounts_createAll (s : State) (bs : List EventBody) : s.recounts (s.createAll bs) := by
  constructor <;> simp

theorem State.recounts_create (s : State) (b : EventBody) : s.recounts (s.create b) := s.recounts_createAll [b]

theorem State.recounts_recompute (s : State) (z : ZoneIx) : s.recounts (s.recompute z) := by
  have kept := s.recompute_kept z
  constructor <;> simp [kept]

theorem State.recounts_beginLatch (s : State) (i : DevIx) (level elapsed : Nat) :
    s.recounts (s.beginLatch i level elapsed) := by
  have port : ∀ l, (s.beginLatch i level elapsed).port l = s.port l := fun l => by cases l <;> simp [State.port]
  have zone := s.beginLatch_zone i level elapsed
  refine ⟨by simp, by simp, by simp, by simp, by simp, by simp, port, ?_, ?_, ?_, ?_, ?_⟩ <;> intro y <;>
    obtain ⟨g, e⟩ := zone y <;> rw [e]

/-- Steps that each leave these, and agree with others where they hold, in sequence. -/
theorem State.recounts.foldl_congr {α : Type} {f g : State → α → State}
    (hfg : ∀ v a, s.recounts v → f v a = g v a ∧ s.recounts (g v a)) (l : List α) (h : s.recounts t) :
    l.foldl f t = l.foldl g t ∧ s.recounts (l.foldl g t) := by
  induction l generalizing t with
  | nil => exact ⟨rfl, h⟩
  | cons a l ih =>
    obtain ⟨same, kept⟩ := hfg t a h
    rw [List.foldl_cons, List.foldl_cons, same]
    exact ih kept

theorem State.recounts_beginLatch_foldl (level elapsed : DevIx → Nat) (l : List DevIx) (s : State) :
    s.recounts (l.foldl (fun v i => v.beginLatch i (level i) (elapsed i)) s) :=
  (State.recounts.foldl_congr (fun v i hv => ⟨rfl, hv.trans (v.recounts_beginLatch i _ _)⟩) l s.recounts_refl).2

theorem State.recounts.dev (h : s.recounts t) (i : DevIx) : t.dev i = s.dev i := by
  simp only [State.dev, h.roster]

theorem State.recounts.counted (h : s.recounts t) (i : DevIx) : t.counted i = s.counted i := by
  simp only [State.counted, Device.countedIn, h.dev, h.disabled, h.test]

/-- A latch that begins with the level and elapsed time that its record has in state s (R102). -/
def State.beginsAs (s : State) (v : State) (i : DevIx) : State :=
  v.beginLatch i (standingLevel (s.dev i) (s.zone (s.dev i).zone)) (keptElapsed (s.dev i))

theorem State.beginsAs_of_memberOf {i : DevIx} (hm : (s.dev i).memberOf z = true) (v : State) :
    s.beginsAs v i = v.beginLatch i (standingLevel (s.dev i) (s.zone z)) (keptElapsed (s.dev i)) := by
  simp only [Device.memberOf, Bool.and_eq_true, beq_iff_eq] at hm
  rw [State.beginsAs, hm.2]

theorem State.recounts.beginKeptLatch (h : s.recounts t) (i : DevIx) : t.beginKeptLatch i = s.beginsAs t i := by
  rw [State.beginKeptLatch, h.dev, standingLevel_congr (h.params _)]
  rfl

/-- Members that become counted in a state that leaves all that their counting and their latches read: the latched and
counted ones begin in the order given, with the levels of that state, and the zone is recomputed once (R96, R102). -/
theorem State.recounts.membersCounted (h : s.recounts t) (z : ZoneIx) (ixs : List DevIx) :
    t.membersCounted z ixs =
      ((ixs.filter fun i => (s.dev i).cond == .fireLatched && s.counted i).foldl s.beginsAs t).recompute z ∧
    s.recounts (t.membersCounted z ixs) := by
  obtain ⟨begun, kept⟩ := State.recounts.foldl_congr (f := State.beginKeptLatch) (g := s.beginsAs)
    (fun v i hv => ⟨hv.beginKeptLatch i, hv.trans (v.recounts_beginLatch i _ _)⟩)
    (ixs.filter fun i => (s.dev i).cond == .fireLatched && s.counted i) h
  have same : t.membersCounted z ixs =
      ((ixs.filter fun i => (s.dev i).cond == .fireLatched && s.counted i).foldl s.beginsAs t).recompute z := by
    simp only [State.membersCounted, h.dev, h.counted]
    rw [begun]
  exact ⟨same, same ▸ kept.trans (State.recounts_recompute _ z)⟩

end Sys2Proof.Machine

/-! ## Disable Zone, Enable Zone and Clear Disablements (R96, R102, R121, R123, R125) -/

namespace Sys2Proof.Machine

variable {s t u : State} {h : FrameHead} {b : Byte} {z : ZoneIx}

/-- What a zone's first disablement does to a record: an unlatched Smoke member loses its verification (R87, R121). -/
def Device.unlatchedCleared (z : ZoneIx) (d : Device) : Device :=
  if d.memberOf z = true ∧ d.kind = .smoke ∧ d.cond ≠ .fireLatched then { d with verif := {} } else d

theorem Device.unlatchedCleared_eq (z : ZoneIx) (d : Device) : d.unlatchedCleared z =
    if d.memberOf z then (if d.cond = .fireLatched then d else d.verifCleared) else d := by
  unfold Device.unlatchedCleared Device.verifCleared
  by_cases hm : d.memberOf z = true
  · by_cases hc : d.cond = .fireLatched
    · simp [hm, hc]
    · simp [hm, hc]
  · simp [hm]

/-- The record of a zone disabled for the first time, with its event (R121). -/
def State.zoneDisabled (s : State) (l : Link) (z : ZoneIx) : State :=
  (s.setZone z { s.zone z with disabled := (s.zone z).disabled.add l, test := none }).create (.zoneDisabled z l)

/-- The effect of a zone's first disablement: its record, the end of its test, its members and its roll-up (R121). -/
theorem State.firstDisableZone_eq (s : State) (l : Link) (z : ZoneIx) : s.firstDisableZone l z =
    ((((s.zone z).test.elim (s.zoneDisabled l z) fun x =>
      (s.zoneDisabled l z).create (.testEnded z x.owner .disablement)).mapDevs
        fun _ d => d.unlatchedCleared z).recompute z) := by
  unfold State.firstDisableZone
  simp only [Device.unlatchedCleared_eq]
  cases (s.zone z).test with
  | none => rfl
  | some x => rfl

theorem State.firstDisableZone_port (s : State) (l m : Link) (z : ZoneIx) :
    (s.firstDisableZone l z).port m = s.port m := by
  rw [State.firstDisableZone_eq]
  cases (s.zone z).test with
  | none => simp [State.zoneDisabled]
  | some x => simp [State.zoneDisabled]

/-- The checks of Disable Zone from an attached link in their order, and its effect (R121). -/
theorem disableZone_eq (hb : b.toNat = z.val) (hm : s.mayOperate h.link = true) :
    disableZone h [b] s =
      if (s.zone z).disabled.has h.link = true then .error { result := .noChange, value := (s.zone z).disabled.code }
      else if (s.zone z).disabled = {} then
        .ok (doneReply ((s.zone z).disabled.add h.link).code, s.firstDisableZone h.link z)
      else
        .ok (doneReply ((s.zone z).disabled.add h.link).code,
          s.setZone z { s.zone z with disabled := (s.zone z).disabled.add h.link }) := by
  simp only [disableZone, zoneTarget_of_eq hb, ok_bind, State.checkAttached, check_of hm, LinkSet.isEmpty_iff]
  rfl

/-- The latched members of a zone that are counted in state t, in index order (R123). -/
def State.latchedCounted (s t : State) (z : ZoneIx) : List DevIx :=
  allDevs.filter fun i => decide
    ((s.dev i).memberOf z = true ∧ t.counted i = true ∧ (s.dev i).cond = .fireLatched)

/-- The checks of Enable Zone from an attached link in their order, and its effect (R102, R123). -/
theorem enableZone_eq (hb : b.toNat = z.val) (hm : s.mayOperate h.link = true) :
    let enabled := s.setZone z { s.zone z with disabled := (s.zone z).disabled.remove h.link }
    enableZone h [b] s =
      if (s.zone z).disabled.has h.link = false then .error { result := .noChange, value := (s.zone z).disabled.code }
      else if (s.zone z).disabled.remove h.link = {} then
        .ok (doneReply ((s.zone z).disabled.remove h.link).code,
          (((s.latchedCounted enabled z).foldl
            (fun v i => v.beginLatch i (standingLevel (s.dev i) (s.zone z)) (keptElapsed (s.dev i)))
            (enabled.create (.zoneEnabled z h.link))).recompute z))
      else .ok (doneReply ((s.zone z).disabled.remove h.link).code, enabled) := by
  intro enabled
  have counted : (enabled.create (.zoneEnabled z h.link)).membersCounted z (enabled.members z fun _ => true) =
      ((s.latchedCounted enabled z).foldl
        (fun v i => v.beginLatch i (standingLevel (s.dev i) (s.zone z)) (keptElapsed (s.dev i)))
        (enabled.create (.zoneEnabled z h.link))).recompute z := by
    have members : ((enabled.members z fun _ => true).filter fun i =>
        (enabled.dev i).cond == .fireLatched && enabled.counted i) = s.latchedCounted enabled z := by
      rw [State.members, List.filter_filter]
      refine List.filter_congr fun i _ => ?_
      rw [Bool.eq_iff_iff]
      simp only [Bool.and_eq_true, Bool.and_true, beq_iff_eq, decide_eq_true_eq]
      exact ⟨fun ⟨⟨latched, counts⟩, member⟩ => ⟨member, counts, latched⟩,
        fun ⟨member, counts, latched⟩ => ⟨⟨latched, counts⟩, member⟩⟩
    rw [((enabled.recounts_create _).membersCounted z _).1, members]
    refine congrArg (State.recompute · z) (List.foldl_ext _ _ _ fun v i hi => ?_)
    have member := of_decide_eq_true (List.mem_filter.mp hi).2
    rw [State.beginsAs_of_memberOf (s := enabled) member.1, State.zone_setZone_self]
    rfl
  simp only [enableZone, zoneTarget_of_eq hb, ok_bind, State.checkAttached, check_of hm, LinkSet.isEmpty_iff,
    Bool.not_eq_true']
  rw [← counted]
  rfl

/-! ### Clear Disablements (R125) -/

/-- Every disablement set emptied (R125). -/
def State.undisabled (s : State) : State :=
  { s.mapDevs fun _ d => { d with disabled := {} } with
    zones := Vector.ofFn fun z => { s.zone z with disabled := {} } }

theorem State.undisabled_dev (s : State) (i : DevIx) : s.undisabled.dev i = { s.dev i with disabled := {} } :=
  vector_getElem_ofFn _ i

theorem State.undisabled_zone (s : State) (z : ZoneIx) : s.undisabled.zone z = { s.zone z with disabled := {} } :=
  vector_getElem_ofFn _ z

theorem State.undisabled_kept (s : State) : s.undisabled.cells = s.cells ∧ s.undisabled.store = s.store ∧
    s.undisabled.site = s.site ∧ s.undisabled.time = s.time ∧ s.undisabled.runClock = s.runClock := by
  simp [State.undisabled]

theorem State.undisabled_port (s : State) (l : Link) : s.undisabled.port l = s.port l := by
  cases l <;> simp only [State.port, State.undisabled, State.mapDevs]

/-- The devices and the zones whose disablement set is not empty, in index and in zone-number order (R125). -/
def State.disabledDevs (s : State) : List DevIx := allDevs.filter fun i => decide ((s.dev i).disabled ≠ {})

def State.disabledZones (s : State) : List ZoneIx := allZones.filter fun z => decide ((s.zone z).disabled ≠ {})

/-- The sets emptied, and Enabled created for each of their devices and then of their zones (R125). -/
def State.toldEnabled (s : State) : State :=
  (s.undisabled.createAll (s.disabledDevs.map fun i => .deviceEnabled i .S)).createAll
    (s.disabledZones.map fun z => .zoneEnabled z .S)

/-- The zones that Clear Disablements touches: those disabled and those of a disabled member (R96, R125). -/
def State.touchedZones (s : State) : List ZoneIx :=
  allZones.filter fun z => decide (z ∈ s.disabledZones ∨ ∃ i ∈ s.disabledDevs, (s.dev i).memberOf z = true)

/-- The latched members of a zone that were not counted and are once the sets are empty, in index order (R96). -/
def State.newlyLatched (s : State) (z : ZoneIx) : List DevIx :=
  allDevs.filter fun i => decide ((s.dev i).memberOf z = true ∧ s.counted i = false ∧
    s.undisabled.counted i = true ∧ (s.dev i).cond = .fireLatched)

/-- The change of counting of one touched zone: its latches begin, and its roll-up is recomputed once (R96, R102). -/
def State.countsAnew (s : State) (v : State) (z : ZoneIx) : State :=
  ((s.newlyLatched z).foldl
    (fun w i => w.beginLatch i (standingLevel (s.dev i) (s.zone z)) (keptElapsed (s.dev i))) v).recompute z

/-- The members of a touched zone that become counted, from any state that has counted others so far. -/
theorem State.membersCounted_undisabled {v : State} (hv : s.undisabled.recounts v) (z : ZoneIx) :
    v.membersCounted z ((v.members z fun _ => true).filter fun i => !s.counted i) = s.countsAnew v z ∧
      s.undisabled.recounts (s.countsAnew v z) := by
  have members : ((v.members z fun _ => true).filter fun i => !s.counted i).filter (fun i =>
      (s.undisabled.dev i).cond == .fireLatched && s.undisabled.counted i) = s.newlyLatched z := by
    rw [State.members, List.filter_filter, List.filter_filter]
    refine List.filter_congr fun i _ => ?_
    rw [Bool.eq_iff_iff, hv.dev, State.undisabled_dev]
    have member : ({ s.dev i with disabled := {} } : Device).memberOf z = (s.dev i).memberOf z := rfl
    rw [member]
    simp only [Bool.and_eq_true, Bool.and_true, Bool.not_eq_true', beq_iff_eq, decide_eq_true_eq]
    exact ⟨fun ⟨⟨⟨latched, counts⟩, uncounted⟩, member⟩ => ⟨member, uncounted, counts, latched⟩,
      fun ⟨member, uncounted, counts, latched⟩ => ⟨⟨⟨latched, counts⟩, uncounted⟩, member⟩⟩
  obtain ⟨same, kept⟩ := hv.membersCounted z ((v.members z fun _ => true).filter fun i => !s.counted i)
  have anew : v.membersCounted z ((v.members z fun _ => true).filter fun i => !s.counted i) = s.countsAnew v z := by
    rw [same, members, State.countsAnew]
    refine congrArg (State.recompute · z) (List.foldl_ext _ _ _ fun w i hi => ?_)
    have member := of_decide_eq_true (List.mem_filter.mp hi).2
    rw [State.beginsAs_of_memberOf (z := z) (by rw [State.undisabled_dev]; exact member.1), State.undisabled_dev,
      State.undisabled_zone]
    rfl
  exact ⟨anew, anew ▸ kept⟩

/-- The sets emptied, the events told, and the touched zones counted anew in zone-number order (R125). -/
def State.disablementsCleared (s : State) : State := s.touchedZones.foldl s.countsAnew s.toldEnabled

/-- The touched zones are counted one after the other, as the state with the sets emptied counts them; what the
counting reads is left on the way (R96, R125). -/
theorem State.disablementsCleared_eq (s : State) :
    s.touchedZones.foldl (fun v z =>
      v.membersCounted z ((v.members z fun _ => true).filter fun i => !s.counted i)) s.toldEnabled =
        s.disablementsCleared ∧ s.undisabled.recounts s.disablementsCleared :=
  State.recounts.foldl_congr (fun _ z hv => State.membersCounted_undisabled hv z) s.touchedZones
    ((State.recounts_createAll _ _).trans (State.recounts_createAll _ _))

/-- Clear Disablements, and its effect (R125). -/
theorem clearDisablements_eq (s : State) : clearDisablements s =
    if s.disabledDevs.length + s.disabledZones.length = 0 then .error { result := .noChange }
    else .ok (doneReply (s.disabledDevs.length + s.disabledZones.length), s.disablementsCleared) := by
  have devs : (allDevs.filter fun i => !(s.dev i).disabled.isEmpty) = s.disabledDevs :=
    List.filter_congr fun i _ => by
      rw [Bool.eq_iff_iff]
      simp [LinkSet.isEmpty_eq_false_iff]
  have zones : (allZones.filter fun z => !(s.zone z).disabled.isEmpty) = s.disabledZones :=
    List.filter_congr fun z _ => by
      rw [Bool.eq_iff_iff]
      simp [LinkSet.isEmpty_eq_false_iff]
  have touched : (allZones.filter fun z =>
      decide (z ∈ s.disabledZones) || s.disabledDevs.any fun i => (s.dev i).memberOf z) = s.touchedZones :=
    List.filter_congr fun z _ => by
      rw [Bool.eq_iff_iff]
      simp
  have none : (s.disabledDevs.isEmpty && s.disabledZones.isEmpty) = true ↔
      s.disabledDevs.length + s.disabledZones.length = 0 := by simp
  rw [← s.disablementsCleared_eq.1]
  unfold clearDisablements
  simp only [devs, zones, touched, none]
  rfl

@[simp] theorem State.taken_cells (s : State) (h : FrameHead) : (s.taken h).cells = s.cells := by
  obtain ⟨l, key, tag, level⟩ := h
  cases l <;> rfl

@[simp] theorem State.taken_time (s : State) (h : FrameHead) : (s.taken h).time = s.time := by
  obtain ⟨l, key, tag, level⟩ := h
  cases l <;> rfl

/-- Settles O15: each clause reads one branch of the checks of R121, R123 and R125, with the members that become counted
as the state with the set emptied decides them. -/
theorem zoneDisablementDecided : Obligations.ZoneDisablementDecided := by
  refine ⟨fun s h b z ht hm hb => ?_, fun s h b z ht hm hb => ?_, fun s h ht => ?_⟩
  · have refused : ∀ {r v}, disableZone h [b] (s.taken h) = .error { result := r, value := v } →
        s.refuses h r v (exec (.disableZone h [b]) s) := fun e => State.command_refuses ht rfl e
    have done : ∀ {r t}, disableZone h [b] (s.taken h) = .ok (r, t) → t.port h.link = (s.taken h).port h.link →
        exec (.disableZone h [b]) s = .next (t.sends h.link h.tag r) :=
      fun e port => congrArg _ (State.command_carried ht rfl e (State.answers_of_port ht.answers port))
    have decided := disableZone_eq (s := s.taken h) (h := h) hb (by simpa using hm)
    simp only [State.taken_zone] at decided
    refine next_ite_of_eq_ite decided refused fun decided => ?_
    refine next_ite_of_eq_ite decided (fun decided => ?_) fun decided => done decided (State.setZone_port _ _ _ _)
    rw [done decided (State.firstDisableZone_port _ _ _ _), State.firstDisableZone_eq, State.zoneDisabled,
      State.taken_zone]
    cases (s.zone z).test with
    | none => rfl
    | some x => rfl
  · have refused : ∀ {r v}, enableZone h [b] (s.taken h) = .error { result := r, value := v } →
        s.refuses h r v (exec (.enableZone h [b]) s) := fun e => State.command_refuses ht rfl e
    have done : ∀ {r t}, enableZone h [b] (s.taken h) = .ok (r, t) → t.port h.link = (s.taken h).port h.link →
        exec (.enableZone h [b]) s = .next (t.sends h.link h.tag r) :=
      fun e port => congrArg _ (State.command_carried ht rfl e (State.answers_of_port ht.answers port))
    have decided := enableZone_eq (s := s.taken h) (h := h) hb (by simpa using hm)
    simp only [State.latchedCounted, State.taken_zone, State.taken_dev] at decided
    refine next_ite_of_eq_ite decided refused fun decided => ?_
    refine next_ite_of_eq_ite decided (fun decided => done decided ?_)
      fun decided => done decided (State.setZone_port _ _ _ _)
    have begun := State.recounts_beginLatch_foldl (fun i => standingLevel (s.dev i) (s.zone z))
      (fun i => keptElapsed (s.dev i))
    rw [State.recompute_port, (begun _ _).port, State.create_port, State.setZone_port]
  · intro u ds zs held cleared told touched counts t
    have devs : (s.taken h).disabledDevs = ds := by simp only [State.disabledDevs, State.taken_dev]; rfl
    have zones : (s.taken h).disabledZones = zs := by simp only [State.disabledZones, State.taken_zone]; rfl
    have undisabled : (s.taken h).undisabled = cleared := by simp only [State.undisabled, State.taken_zone]; rfl
    have counting : (s.taken h).countsAnew = counts := by
      funext v z
      simp only [State.countsAnew, State.newlyLatched, undisabled, State.taken_dev, State.taken_zone,
        State.taken_counted]
      rfl
    have done : (s.taken h).disablementsCleared = t := by
      simp only [State.disablementsCleared, State.toldEnabled, State.touchedZones, counting, devs, zones, undisabled,
        State.taken_dev]
      rfl
    have kept : (s.taken h).undisabled.recounts t := done ▸ (s.taken h).disablementsCleared_eq.2
    obtain ⟨cells, store, site, time, runClock⟩ := (s.taken h).undisabled_kept
    have zone : ∀ z, (s.taken h).undisabled.zone z = { s.zone z with disabled := {} } := fun z => by
      rw [State.undisabled_zone, State.taken_zone]
    have decided := clearDisablements_eq (s.taken h)
    rw [devs, zones, done] at decided
    refine ⟨fun none => State.command_refuses ht rfl (decided.trans (if_pos none)), fun some => ⟨?_, fun i => ?_,
      fun z => ⟨?_, ?_, ?_, ?_, ?_⟩, ?_, ?_, ?_, ?_, ?_⟩⟩
    · refine congrArg _ (State.command_carried ht rfl (decided.trans (if_neg some)) ?_)
      exact State.answers_of_port ht.answers ((kept.port _).trans (State.undisabled_port _ _))
    · rw [kept.dev, State.undisabled_dev, State.taken_dev]
    · rw [kept.disabled, zone]
    · rw [kept.test, zone]
    · rw [kept.profile, zone]
    · rw [kept.profileExpiry, zone]
    · rw [kept.params, zone]
    · rw [kept.cells, cells, State.taken_cells]
    · rw [kept.store, store, State.taken_store]
    · rw [kept.site, site, State.taken_site]
    · rw [kept.time, time, State.taken_time]
    · rw [kept.runClock, runClock, State.taken_runClock]

end Sys2Proof.Machine

/-! ## The checks before those of the operator commands (R112, R155) -/

namespace Sys2Proof.Machine

variable {s : State} {h : FrameHead} {c : Command} {b : Byte} {rest ops : List Byte}

/-- A taken frame of command c with these operands is carried out by a body. -/
def carriedBy (c : Command) (h : FrameHead) (ops : List Byte)
    (body : State → Except Reply (Reply × State)) : Prop :=
  ∀ s, takeCommand c h ops s = .next (s.command h c ops body)

/-- A taken frame whose command's body refuses (R156). -/
theorem State.takes.refusedBy {body : State → Except Reply (Reply × State)} (ht : s.takes h c)
    (run : carriedBy c h ops body) (hn : ops.length = c.operands) {r : Result} {v : Nat}
    (refused : body (s.taken h) = .error { result := r, value := v }) :
    takeCommand c h ops s = .next ((s.taken h).sends h.link h.tag { result := r, value := v }) :=
  (run s).trans (State.command_refuses ht hn refused)

/-- Check 8 of R155 refuses a panel link that is not attached. -/
theorem State.checkAttached_of_not (hm : s.mayOperate h.link = false) :
    s.checkAttached h = .error { result := .notAttached } := check_of_not hm _ _

/-- Check 7 of R155, as the entry's life cycle decides it. -/
theorem State.checkPresent_eq (s : State) (i : DevIx) : s.checkPresent i =
    if (s.dev i).life = .vacant then .error { result := .vacantTarget } else .ok () := by
  split
  · next vacant => exact check_of_not (by simp [vacant]) _ _
  · next present => exact check_of (by simpa using present) _ _

theorem exists_zone_of_lt (hb : b.toNat < 32) : ∃ z : ZoneIx, b.toNat = z.val := ⟨⟨b.toNat, hb⟩, rfl⟩

/-- The operator commands on a zone check the zone operand, then the attachment, and then whatever is their own. -/
theorem zoneCommand_checks
    (hc : c ∈ [Command.acknowledgeZone, .resetZone, .disableZone, .enableZone, .startTest, .endTest, .selectProfile])
    (hn : (b :: rest).length = c.operands) (h : FrameHead) :
    ∃ own : State → ZoneIx → Unit → Except Reply (Reply × State),
      carriedBy c h (b :: rest) fun t => zoneTarget b >>= fun z => t.checkAttached h >>= own t z := by
  simp only [List.mem_cons, List.not_mem_nil, or_false] at hc
  rcases hc with rfl | rfl | rfl | rfl | rfl | rfl | rfl
  · exact match rest, hn with | [_, _], _ => ⟨_, fun _ => rfl⟩
  · exact match rest, hn with | [_, _], _ => ⟨_, fun _ => rfl⟩
  · exact match rest, hn with | [], _ => ⟨_, fun _ => rfl⟩
  · exact match rest, hn with | [], _ => ⟨_, fun _ => rfl⟩
  · exact match rest, hn with | [_], _ => ⟨_, fun _ => rfl⟩
  · exact match rest, hn with | [], _ => ⟨_, fun _ => rfl⟩
  · exact match rest, hn with | [_, _], _ => ⟨_, fun _ => rfl⟩

/-- The disablement commands of a device make the checks of their target and the attachment before their own. -/
theorem deviceCommand_checks (hc : c ∈ [Command.disableDevice, .enableDevice]) (h : FrameHead) (b : Byte) :
    [b].length = c.operands ∧ ∃ own : State → DevIx → Except Reply (Reply × State),
      carriedBy c h [b] fun t => deviceChecks h b t >>= own t := by
  simp only [List.mem_cons, List.not_mem_nil, or_false] at hc
  rcases hc with rfl | rfl
  · exact ⟨rfl, _, fun _ => rfl⟩
  · exact ⟨rfl, _, fun _ => rfl⟩

/-- Acknowledge All, Reset All and Set Time, which have no target, check the attachment first. -/
theorem siteCommand_checks (hc : c ∈ [Command.acknowledgeAll, .resetAll, .setTime])
    (hn : (b :: rest).length = c.operands) (h : FrameHead) :
    ∃ own : State → Unit → Except Reply (Reply × State),
      carriedBy c h (b :: rest) fun t => t.checkAttached h >>= own t := by
  simp only [List.mem_cons, List.not_mem_nil, or_false] at hc
  rcases hc with rfl | rfl | rfl
  · exact match rest, hn with | [_], _ => ⟨_, fun _ => rfl⟩
  · exact match rest, hn with | [_], _ => ⟨_, fun _ => rfl⟩
  · exact match rest, hn with | [_, _, _], _ => ⟨_, fun _ => rfl⟩

theorem deviceChecks_of_ge (hb : 192 ≤ b.toNat) :
    deviceChecks h b s = .error { result := .badTarget, value := b.toNat } := by
  simp only [deviceChecks, deviceTarget_of_ge hb, error_bind]

theorem deviceChecks_of_vacant {i : DevIx} (hb : b.toNat = i.val) (hv : (s.dev i).life = .vacant) :
    deviceChecks h b s = .error { result := .vacantTarget } := by
  simp only [deviceChecks, deviceTarget_of_eq hb, ok_bind, State.checkPresent_eq, if_pos hv, error_bind]

theorem deviceChecks_of_not_attached {i : DevIx} (hb : b.toNat = i.val) (hv : (s.dev i).life ≠ .vacant)
    (hm : s.mayOperate h.link = false) : deviceChecks h b s = .error { result := .notAttached } := by
  simp only [deviceChecks, deviceTarget_of_eq hb, ok_bind, State.checkPresent_eq, if_neg hv,
    State.checkAttached_of_not hm, error_bind]

/-- Settles O11: each clause reads the first check that fails, in the order in which the commands make them. -/
theorem operatorChecksBeforeTheirOwn : Obligations.OperatorChecksBeforeTheirOwn := by
  intro s c h b rest ht
  refine ⟨fun hc hn => ?_, fun hc => ?_, fun hc hn hm => ?_⟩
  · obtain ⟨own, run⟩ := zoneCommand_checks hc hn h
    refine ⟨fun hb => ht.refusedBy run hn ?_, fun hb hm => ht.refusedBy run hn ?_⟩
    · rw [zoneTarget_of_ge hb, error_bind]
    · obtain ⟨z, hz⟩ := exists_zone_of_lt hb
      rw [zoneTarget_of_eq hz, ok_bind, State.checkAttached_of_not (by simpa using hm), error_bind]
  · obtain ⟨hn, own, run⟩ := deviceCommand_checks hc h b
    refine ⟨fun hb => ht.refusedBy run hn ?_, fun i hb hv => ht.refusedBy run hn ?_,
      fun i hb hv hm => ht.refusedBy run hn ?_⟩
    · rw [deviceChecks_of_ge hb, error_bind]
    · rw [deviceChecks_of_vacant hb (by simpa using hv), error_bind]
    · rw [deviceChecks_of_not_attached hb (by simpa using hv) (by simpa using hm), error_bind]
  · obtain ⟨own, run⟩ := siteCommand_checks hc hn h
    refine ht.refusedBy run hn ?_
    rw [State.checkAttached_of_not (by simpa using hm), error_bind]

end Sys2Proof.Machine

/-! ## Acknowledge Zone and Reset Zone (R106, R113, R115, R116) -/

namespace Sys2Proof.Machine

variable {s t : State} {h : FrameHead} {c : Command} {ops : List Byte} {b ghi glo : Byte} {z : ZoneIx}

theorem check_of_iff_not {p : Prop} [Decidable p] {q : Bool} (hq : q = true ↔ ¬ p) (r : Result) (v : Nat) :
    check q r v = if p then .error { result := r, value := v } else .ok () := by
  split
  · next hp => exact check_of_not (Bool.eq_false_iff.mpr fun e => hq.mp e hp) _ _
  · next hp => exact check_of (hq.mpr hp) _ _

theorem ite_bind {ε α β : Type} {p : Prop} [Decidable p] (x y : Except ε α) (f : α → Except ε β) :
    ((if p then x else y) >>= f) = if p then x >>= f else y >>= f := apply_ite (· >>= f) p x y

theorem Zone.inAlarm_iff_not {r : Zone} : r.inAlarm = true ↔ ¬ (r.cond ≠ .fire ∧ r.cond ≠ .alerted) := by
  rw [Zone.inAlarm_iff, not_and_or, not_not, not_not]

/-- A zone counts as acknowledged when its acknowledgement is of its current generation (R106). -/
theorem Zone.acknowledged_iff {r : Zone} :
    r.acknowledged = true ↔ (r.ack.map fun a => a.generation) = some r.generation := by
  unfold Zone.acknowledged
  cases r.ack with
  | none => simp
  | some a => simp

theorem Zone.acknowledged_iff_not {r : Zone} :
    r.acknowledged = true ↔ ¬ (r.ack.map fun a => a.generation) ≠ some r.generation :=
  Zone.acknowledged_iff.trans not_not.symm

theorem operand_check {hi lo : Byte} {g : BitVec 16} : decide (be16 hi lo = g) = true ↔ ¬ hi ++ lo ≠ g := by
  rw [decide_eq_true_eq, not_not]
  rfl

theorem enc8_linkCode (l : Link) : enc8 l.code = [BitVec.ofNat 8 l.code] := by
  cases l with
  | A => rfl
  | B => rfl
  | S => rfl

/-- The data byte of the answer is the link code that the acknowledgement records (R113). -/
theorem ackData_of_ack {r : Zone} {a : Ack} (ha : r.ack = some a) : ackData r = [BitVec.ofNat 8 a.link.code] := by
  rw [ackData, ha]
  exact enc8_linkCode a.link

theorem State.acknowledgeBy_data (s : State) (l : Link) (z : ZoneIx) :
    ackData ((s.acknowledgeBy l z).zone z) = [BitVec.ofNat 8 l.code] := by
  have ack : ((s.acknowledgeBy l z).zone z).ack = some { generation := (s.zone z).generation, link := l } := by
    simp [State.acknowledgeBy]
  exact ackData_of_ack ack

/-- The checks of Acknowledge Zone from an attached link in their order, and its effect (R113). -/
theorem acknowledgeZone_eq (hb : b.toNat = z.val) (hm : s.mayOperate h.link = true) :
    acknowledgeZone h [b, ghi, glo] s =
      if (s.zone z).cond ≠ .fire ∧ (s.zone z).cond ≠ .alerted then
        .error { result := .notInAlarm, value := (s.zone z).generation.toNat }
      else if ghi ++ glo ≠ (s.zone z).generation then
        .error { result := .stale, value := (s.zone z).generation.toNat }
      else
        match (s.zone z).ack.filter fun a => a.generation = (s.zone z).generation with
        | some a => .error {
            result := .noChange, value := (s.zone z).generation.toNat, data := [BitVec.ofNat 8 a.link.code] }
        | none => .ok (doneReply (s.zone z).generation.toNat [BitVec.ofNat 8 h.link.code],
            s.acknowledgeBy h.link z) := by
  simp only [acknowledgeZone, zoneTarget_of_eq hb, ok_bind, State.checkAttached, check_of hm,
    check_of_iff_not Zone.inAlarm_iff_not, check_of_iff_not operand_check, ite_bind, error_bind]
  congr 2
  cases hack : (s.zone z).ack with
  | none => rw [Option.filter_none, if_neg (by simp [Zone.acknowledged, hack]), State.acknowledgeBy_data]
  | some a =>
    rw [Option.filter_some]
    by_cases current : a.generation = (s.zone z).generation
    · rw [if_pos (by simpa [Zone.acknowledged, hack] using current), if_pos (decide_eq_true current),
        ackData_of_ack hack, noChange]
    · rw [if_neg (by simpa [Zone.acknowledged, hack] using current), if_neg (mt of_decide_eq_true current),
        State.acknowledgeBy_data]

/-- The checks of Reset Zone from an attached link in their order, and its effect (R115). -/
theorem resetZone_eq (hb : b.toNat = z.val) (hm : s.mayOperate h.link = true) :
    resetZone h [b, ghi, glo] s =
      if (s.zone z).cond ≠ .fire ∧ (s.zone z).cond ≠ .alerted then
        .error { result := .notInAlarm, value := (s.zone z).generation.toNat }
      else if ghi ++ glo ≠ (s.zone z).generation then
        .error { result := .stale, value := (s.zone z).generation.toNat }
      else if ((s.zone z).ack.map fun a => a.generation) ≠ some (s.zone z).generation then
        .error { result := .notAcknowledged, value := (s.zone z).generation.toNat }
      else .ok (doneReply (s.zone z).generation.toNat, s.resetBy h.link z) := by
  simp only [resetZone, zoneTarget_of_eq hb, ok_bind, State.checkAttached, check_of hm,
    check_of_iff_not Zone.inAlarm_iff_not, check_of_iff_not Zone.acknowledged_iff_not, check_of_iff_not operand_check,
    ite_bind, error_bind]

theorem State.acknowledgeBy_port (s : State) (l k : Link) (z : ZoneIx) : (s.acknowledgeBy l z).port k = s.port k := by
  simp [State.acknowledgeBy]

theorem State.resetBy_port (s : State) (l k : Link) (z : ZoneIx) : (s.resetBy l z).port k = s.port k := by
  simp [State.resetBy, State.mapMembers]

/-- A zone reset with its records (R116). -/
theorem State.resetBy_eq (s : State) (l : Link) (z : ZoneIx) : s.resetBy l z =
    ((s.mapDevs fun _ d => resetRecord z d).create (.zoneReset z (s.zone z).generation l)).recompute z := by
  simp only [resetRecord_eq]
  rfl

/-- A command refused by its own checks with data in its reply (R156). -/
theorem State.command_refused {body : State → Except Reply (Reply × State)} (ht : s.takes h c)
    (hn : ops.length = c.operands) {r : Reply} (hb : body (s.taken h) = .error r) :
    s.command h c ops body = (s.taken h).sends h.link h.tag r := by
  rw [s.command_of_takes ht hn, hb, ← State.reply_of_answers _ ht.answers]

/-- Settles O12: each clause reads one branch of the checks of R113 and R115. -/
theorem acknowledgeAndResetZoneDecided : Obligations.AcknowledgeAndResetZoneDecided := by
  refine ⟨fun s h b ghi glo z ht hm hb => ?_, fun s h b ghi glo z ht hm hb => ?_⟩
  · have refused : ∀ {r}, acknowledgeZone h [b, ghi, glo] (s.taken h) = .error r →
        exec (.acknowledgeZone h [b, ghi, glo]) s = .next ((s.taken h).sends h.link h.tag r) :=
      fun e => congrArg _ (State.command_refused ht rfl e)
    have done : ∀ {r}, acknowledgeZone h [b, ghi, glo] (s.taken h) = .ok (r, (s.taken h).acknowledgeBy h.link z) →
        exec (.acknowledgeZone h [b, ghi, glo]) s =
          .next (((s.taken h).acknowledgeBy h.link z).sends h.link h.tag r) :=
      fun e => congrArg _ (State.command_carried ht rfl e
        (State.answers_of_port ht.answers (State.acknowledgeBy_port _ _ _ _)))
    have decided := acknowledgeZone_eq (s := s.taken h) (h := h) (ghi := ghi) (glo := glo) hb (by simpa using hm)
    simp only [State.taken_zone] at decided
    refine next_ite_of_eq_ite decided refused fun decided => ?_
    refine next_ite_of_eq_ite decided refused fun decided => ?_
    cases current : (s.zone z).ack.filter fun a => a.generation = (s.zone z).generation with
    | some a =>
      rw [current] at decided
      exact refused decided
    | none =>
      rw [current] at decided
      rw [done decided, State.acknowledgeBy, State.modZone_eq, State.taken_zone]
      rfl
  · have refused : ∀ {r v}, resetZone h [b, ghi, glo] (s.taken h) = .error { result := r, value := v } →
        s.refuses h r v (exec (.resetZone h [b, ghi, glo]) s) := fun e => State.command_refuses ht rfl e
    have decided := resetZone_eq (s := s.taken h) (h := h) (ghi := ghi) (glo := glo) hb (by simpa using hm)
    simp only [State.taken_zone] at decided
    refine next_ite_of_eq_ite decided refused fun decided => ?_
    refine next_ite_of_eq_ite decided refused fun decided => ?_
    refine next_ite_of_eq_ite decided refused fun decided => ?_
    refine congrArg Host.Outcome.next ((State.command_carried ht rfl decided
      (State.answers_of_port ht.answers (State.resetBy_port _ _ _ _))).trans ?_)
    rw [State.resetBy_eq, State.taken_zone]
    rfl

end Sys2Proof.Machine

/-! ## Acknowledge All and Reset All (R118, R119) -/

namespace Sys2Proof.Machine

variable {s : State} {h : FrameHead} {hi lo : Byte}

@[simp] theorem State.taken_siteCount (s : State) (h : FrameHead) : (s.taken h).siteCount = s.siteCount := by
  obtain ⟨l, key, tag, level⟩ := h
  cases l <;> rfl

/-- The zones in alarm, in zone-number order (R113). -/
def State.alarmZones (s : State) : List ZoneIx :=
  allZones.filter fun z => decide ((s.zone z).cond = .fire ∨ (s.zone z).cond = .alerted)

/-- Those of them not acknowledged at their current generation (R106). -/
def State.unacknowledgedZones (s : State) : List ZoneIx :=
  s.alarmZones.filter fun z => decide (((s.zone z).ack.map fun a => a.generation) ≠ some (s.zone z).generation)

theorem State.filter_inAlarm (s : State) : (allZones.filter fun z => (s.zone z).inAlarm) = s.alarmZones :=
  List.filter_congr fun z _ => by rw [Bool.eq_iff_iff, Zone.inAlarm_iff, decide_eq_true_eq]

theorem Zone.not_acknowledged_eq (r : Zone) :
    (!r.acknowledged) = decide ((r.ack.map fun a => a.generation) ≠ some r.generation) := by
  rw [Bool.eq_iff_iff, Bool.not_eq_true', decide_eq_true_eq, ← Bool.not_eq_true, ne_eq, Zone.acknowledged_iff]

theorem State.filter_needsAck (s : State) :
    (allZones.filter fun z => (s.zone z).needsAck) = s.unacknowledgedZones := by
  rw [State.unacknowledgedZones, ← State.filter_inAlarm, List.filter_filter]
  exact List.filter_congr fun z _ => by rw [Zone.needsAck, Bool.and_comm, Zone.not_acknowledged_eq]

theorem State.find_not_acknowledged (s : State) :
    (s.alarmZones.find? fun z => !(s.zone z).acknowledged) = s.unacknowledgedZones.head? := by
  simp only [Zone.not_acknowledged_eq, State.unacknowledgedZones, List.head?_filter]

theorem State.taken_alarmZones (s : State) (h : FrameHead) : (s.taken h).alarmZones = s.alarmZones := by
  simp only [State.alarmZones, State.taken_zone]

theorem State.taken_unacknowledgedZones (s : State) (h : FrameHead) :
    (s.taken h).unacknowledgedZones = s.unacknowledgedZones := by
  simp only [State.unacknowledgedZones, State.taken_alarmZones, State.taken_zone]

/-- The checks of Acknowledge All from an attached link in their order, and its effect (R118). -/
theorem acknowledgeAll_eq (hm : s.mayOperate h.link = true) :
    acknowledgeAll h [hi, lo] s =
      if hi ++ lo ≠ s.siteCount then .error { result := .stale, value := s.siteCount.toNat }
      else if s.unacknowledgedZones = [] then .error { result := .noChange }
      else .ok (doneReply s.unacknowledgedZones.length,
        s.unacknowledgedZones.foldl (fun t z => t.acknowledgeBy h.link z) s) := by
  simp only [acknowledgeAll, State.checkAttached, check_of hm, ok_bind, check_of_iff_not operand_check, ite_bind,
    error_bind, State.filter_needsAck, List.isEmpty_iff]
  rfl

/-- The checks of Reset All from an attached link in their order, and its effect (R119). -/
theorem resetAll_eq (hm : s.mayOperate h.link = true) :
    resetAll h [hi, lo] s =
      if hi ++ lo ≠ s.siteCount then .error { result := .stale, value := s.siteCount.toNat }
      else if s.alarmZones = [] then .error { result := .noChange }
      else
        match s.unacknowledgedZones with
        | z :: _ => .error { result := .notAcknowledged, value := z.val }
        | [] => .ok (doneReply s.alarmZones.length, s.alarmZones.foldl (fun t z => t.resetBy h.link z) s) := by
  simp only [resetAll, State.checkAttached, check_of hm, ok_bind, check_of_iff_not operand_check, ite_bind,
    error_bind, State.filter_inAlarm, State.find_not_acknowledged, List.isEmpty_iff]
  cases s.unacknowledgedZones with
  | nil => rfl
  | cons z zs => rfl

/-- Steps that each leave a link's port, in sequence. -/
theorem State.port_foldl {α : Type} {f : State → α → State} {l : Link} (hf : ∀ t a, (f t a).port l = t.port l)
    (as : List α) (s : State) : (as.foldl f s).port l = s.port l := by
  induction as generalizing s with
  | nil => rfl
  | cons a as ih => exact (ih _).trans (hf s a)

/-- Settles O13: each clause reads one branch of the checks of R118 and R119. -/
theorem siteWideActionsDecided : Obligations.SiteWideActionsDecided := by
  intro s h hi lo hm
  refine ⟨fun ht => ?_, fun ht => ?_⟩
  · have refused : ∀ {r v}, acknowledgeAll h [hi, lo] (s.taken h) = .error { result := r, value := v } →
        s.refuses h r v (exec (.acknowledgeAll h [hi, lo]) s) := fun e => State.command_refuses ht rfl e
    have decided := acknowledgeAll_eq (s := s.taken h) (h := h) (hi := hi) (lo := lo) (by simpa using hm)
    rw [State.taken_siteCount, State.taken_unacknowledgedZones] at decided
    refine next_ite_of_eq_ite decided refused fun decided => ?_
    refine next_ite_of_eq_ite decided refused fun decided => ?_
    exact congrArg _ (State.command_carried ht rfl decided (State.answers_of_port ht.answers
      (State.port_foldl (fun t z => t.acknowledgeBy_port _ _ z) _ _)))
  · have refused : ∀ {r v}, resetAll h [hi, lo] (s.taken h) = .error { result := r, value := v } →
        s.refuses h r v (exec (.resetAll h [hi, lo]) s) := fun e => State.command_refuses ht rfl e
    have decided := resetAll_eq (s := s.taken h) (h := h) (hi := hi) (lo := lo) (by simpa using hm)
    rw [State.taken_siteCount, State.taken_unacknowledgedZones, State.taken_alarmZones] at decided
    refine next_ite_of_eq_ite decided refused fun decided => ?_
    refine next_ite_of_eq_ite decided refused fun decided => ?_
    change _ = Host.Outcome.next (match s.unacknowledgedZones with | z :: _ => _ | [] => _)
    cases unacknowledged : s.unacknowledgedZones with
    | cons z zs =>
      rw [unacknowledged] at decided
      exact refused decided
    | nil =>
      rw [unacknowledged] at decided
      exact congrArg _ (State.command_carried ht rfl decided (State.answers_of_port ht.answers
        (State.port_foldl (fun t z => t.resetBy_port _ _ z) _ _)))

end Sys2Proof.Machine

/-! ## The Event Store as the panel links see it (R131 to R138) -/

namespace Sys2Proof.Machine

variable {s t u : State}

/-- What the law of the Event Store reads: the stored events and which panel links are attached (R135). -/
def State.log (s : State) : List Event × PanelSet := (s.events, s.attachedSet)

theorem State.eventSound_iff {e : Event} : s.eventSound e ↔ e.pending.isEmpty = false ∧
    ∀ p, e.pending.has p = true → s.attachedSet.has p = true :=
  and_congr_right' ⟨fun h p => by cases p with | A => exact h.1 | B => exact h.2, fun h => ⟨h .A, h .B⟩⟩

theorem State.storeSound_of_log (h : t.log = s.log) (hs : s.storeSound) : t.storeSound := by
  obtain ⟨events, attached⟩ := Prod.mk.inj h
  obtain ⟨size, sound⟩ := hs
  refine ⟨events ▸ size, fun e he => ?_⟩
  rw [State.eventSound_iff, attached]
  exact State.eventSound_iff.mp (sound e (events ▸ he))

@[simp] theorem State.attachedSet_has (s : State) (p : Panel) : s.attachedSet.has p = (s.panel p).attached := by
  cases p <;> rfl

/-! ### What leaves the log -/

@[simp] theorem State.setPort_log (s : State) (l : Link) (p : Port) : (s.setPort l p).log = s.log := by cases l <;> rfl

theorem State.setPanel_log (s : State) {p : Panel} {d : Delivery} (h : d.attached = (s.panel p).attached) :
    (s.setPanel p d).log = s.log := by
  cases p with
  | A => exact congrArg (fun a => (s.events, PanelSet.mk a s.panelB.attached)) h
  | B => exact congrArg (fun b => (s.events, PanelSet.mk s.panelA.attached b)) h

theorem State.taken_log (s : State) (h : FrameHead) : (s.taken h).log = s.log := by
  obtain ⟨l, key, tag, level⟩ := h
  cases l <;> rfl

theorem State.answer_log (s : State) (l : Link) (tag : Byte) (r : Reply) : (s.answer l tag r).log = s.log := by
  unfold State.answer
  split
  · exact s.setPort_log l _
  · rfl

theorem State.requestWrite_log (s : State) (j : WriteJob) : (s.requestWrite j).log = s.log := by
  rcases s.requestWrite_cases j with ⟨-, -, e⟩ | e
  · rw [e]; rfl
  · rw [e]; rfl

theorem State.requestRoster_log (s : State) (ixs : List DevIx) : (s.requestRoster ixs).log = s.log := by
  rw [State.requestRoster_eq]; rfl

theorem State.mapDevs_log (s : State) (f : DevIx → Device → Device) : (s.mapDevs f).log = s.log := by
  simp [State.log, State.attachedSet]

/-! ### Creation (R132 to R137) -/

@[simp] theorem State.create_attachedSet (s : State) (b : EventBody) : (s.create b).attachedSet = s.attachedSet := by
  obtain ⟨a, b⟩ := s.create_panels b
  rw [State.attachedSet, a, b]
  rfl

/-- Of 256 stored events at most one leaves for the new one (R135, R136). -/
theorem State.storeEvent_length (s : State) (e : Event) (h : s.events.length ≤ 256) :
    (s.storeEvent e).events.length ≤ 256 := by
  rcases s.storeEvent_cases e with ⟨room, eq⟩ | ⟨-, eq⟩ | ⟨-, c, v, -, found, eq⟩
  · rw [eq]; simpa using room
  · rw [eq]; exact h
  · have stored := List.mem_of_find?_eq_some found
    have removed := List.length_eraseP_of_mem (p := fun x : Event => decide (x.body.cls = c)) stored
      (List.find?_some (p := fun x : Event => decide (x.body.cls = c)) found)
    have pos := List.length_pos_of_mem stored
    rw [eq]
    simp only [List.length_append, removed, List.length_singleton]
    omega

/-- The stored events after a creation are among those before it and the new one. -/
theorem State.mem_storeEvent {e x : Event} (h : x ∈ (s.storeEvent e).events) : x ∈ s.events ∨ x = e := by
  rcases s.storeEvent_cases e with ⟨-, eq⟩ | ⟨-, eq⟩ | ⟨-, c, v, -, -, eq⟩
  · rw [eq] at h; simpa using h
  · rw [eq] at h; exact .inl h
  · rw [eq] at h
    exact (List.mem_append.mp h).imp List.mem_of_mem_eraseP List.mem_singleton.mp

/-- Creating an event keeps the law: the new one is stored for the links attached, and only when there is one
(R134 to R136). -/
theorem State.storeSound_create (b : EventBody) (hs : s.storeSound) : (s.create b).storeSound := by
  obtain ⟨size, sound⟩ := hs
  have attached := s.create_attachedSet b
  rw [State.create_eq] at attached ⊢
  split at attached
  · next alone => rw [if_pos alone]; exact State.storeSound_of_log rfl ⟨size, sound⟩
  · next filled =>
    rw [if_neg filled]
    refine ⟨State.storeEvent_length _ _ size, fun x hx => ?_⟩
    rw [State.eventSound_iff, attached]
    rcases State.mem_storeEvent hx with old | rfl
    · exact State.eventSound_iff.mp (sound x old)
    · exact ⟨eq_false_of_ne_true filled, fun _ => id⟩

/-! ### Detachment (R138, R145) -/

@[simp] theorem PanelSet.has_remove (x : PanelSet) (p q : Panel) :
    (x.remove p).has q = (decide (q ≠ p) && x.has q) := by
  cases p <;> cases q <;> rfl

theorem mem_withoutPanel {events : List Event} {p : Panel} {x : Event} : x ∈ withoutPanel events p ↔
    (∃ e ∈ events, { e with pending := e.pending.remove p } = x) ∧ x.pending.isEmpty = false := by
  simp [withoutPanel]

/-- A detached panel link is in no pending set (R145). -/
theorem withoutPanel_has {events : List Event} {p : Panel} {x : Event} (h : x ∈ withoutPanel events p) :
    x.pending.has p = false := by
  obtain ⟨⟨e, -, rfl⟩, -⟩ := mem_withoutPanel.mp h
  simp

/-- The state of a detached panel link before the event of its detachment (R145 steps 1 to 3). -/
def State.silenced (s : State) (p : Panel) : State :=
  { s.setPanel p { s.panel p with attached := false, credits := {}, lost := {} } with
    events := withoutPanel s.events p }

theorem State.silenced_panel (s : State) (p q : Panel) : (s.silenced p).panel q =
    if q = p then { s.panel p with attached := false, credits := {}, lost := {} } else s.panel q := by
  cases p <;> cases q <;> rfl

/-- The event of a detachment is created for the other panel link, when it is attached (R147). -/
theorem State.detachPanel_eq (s : State) (p : Panel) (c : DetachCause) : s.detachPanel p c =
    if (s.panel (otherPanel p)).attached then (s.silenced p).create (.linkDetached p c) else s.silenced p := by
  have other : (s.silenced p).panel (otherPanel p) = s.panel (otherPanel p) := by
    rw [State.silenced_panel, if_neg (by cases p <;> decide)]
  rw [← other]
  rfl

theorem State.storeSound_silenced (p : Panel) (hs : s.storeSound) : (s.silenced p).storeSound := by
  obtain ⟨size, sound⟩ := hs
  refine ⟨?_, fun x hx => ?_⟩
  · exact ((List.length_filter_le _ _).trans (List.length_map _).le).trans size
  · obtain ⟨⟨e, he, rfl⟩, filled⟩ := mem_withoutPanel.mp hx
    refine State.eventSound_iff.mpr ⟨filled, fun q hq => ?_⟩
    obtain ⟨-, pending⟩ := State.eventSound_iff.mp (sound e he)
    simp only [PanelSet.has_remove, Bool.and_eq_true, decide_eq_true_eq] at hq
    have attached := pending q hq.2
    rw [State.attachedSet_has] at attached ⊢
    rwa [State.silenced_panel, if_neg hq.1]

theorem State.storeSound_detachPanel (p : Panel) (c : DetachCause) (hs : s.storeSound) :
    (s.detachPanel p c).storeSound := by
  rw [State.detachPanel_eq]
  split
  · exact State.storeSound_create _ (State.storeSound_silenced p hs)
  · exact State.storeSound_silenced p hs

/-! ### Delivery (R138, R142) -/

/-- A stored event as a panel link's fetch leaves it: without the link, and gone when no other link waits for it
(R138, R142). -/
def Event.fetched (e : Event) (p : Panel) : List Event :=
  if (e.pending.remove p).isEmpty then [] else [{ e with pending := e.pending.remove p }]

/-- A fetch delivers the first event of its class that is pending for the link (R140, R141). -/
theorem afterFetch_eq {p : Panel} {c : EventClass} {older newer : List Event} {e : Event}
    (hp : e.pending.has p = true) (hc : e.body.cls = c)
    (older_not : ∀ x ∈ older, x.pending.has p = true → x.body.cls ≠ c) :
    afterFetch p c (older ++ e :: newer) = older ++ e.fetched p ++ newer := by
  induction older with
  | nil =>
    have this : (e.pending.has p && e.body.cls == c) = true := by simp [hp, hc]
    simp only [List.nil_append, afterFetch, this, if_true, Event.fetched]
    split
    · rfl
    · rfl
  | cons x older ih =>
    have other : (x.pending.has p && x.body.cls == c) = false := by
      simpa using older_not x List.mem_cons_self
    simp only [List.cons_append, afterFetch, other, Bool.false_eq_true, if_false]
    rw [ih fun y hy => older_not y (List.mem_cons_of_mem _ hy)]

theorem afterFetch_length (p : Panel) (c : EventClass) (l : List Event) : (afterFetch p c l).length ≤ l.length := by
  induction l with
  | nil => exact le_rfl
  | cons e l ih =>
    unfold afterFetch
    split
    · split
      · exact Nat.le_succ _
      · exact le_rfl
    · exact Nat.succ_le_succ ih

/-- The stored events after a fetch: those before it, one of them without the link (R142). -/
theorem mem_afterFetch {p : Panel} {c : EventClass} {l : List Event} {x : Event} (h : x ∈ afterFetch p c l) :
    x ∈ l ∨ x.pending.isEmpty = false ∧ ∃ e ∈ l, x = { e with pending := e.pending.remove p } := by
  induction l with
  | nil => cases h
  | cons e l ih =>
    unfold afterFetch at h
    split at h
    · split at h
      · exact .inl (List.mem_cons_of_mem _ h)
      · next filled =>
        rcases List.mem_cons.mp h with rfl | h
        · exact .inr ⟨eq_false_of_ne_true filled, e, List.mem_cons_self, rfl⟩
        · exact .inl (List.mem_cons_of_mem _ h)
    · rcases List.mem_cons.mp h with rfl | h
      · exact .inl List.mem_cons_self
      · exact (ih h).imp (List.mem_cons_of_mem _) fun ⟨filled, y, hy, eq⟩ => ⟨filled, y, List.mem_cons_of_mem _ hy, eq⟩

/-- A fetch keeps the law (R135, R142). -/
theorem State.storeSound_afterFetch (p : Panel) (c : EventClass) (hs : s.storeSound) :
    ({ s with events := afterFetch p c s.events } : State).storeSound := by
  obtain ⟨size, sound⟩ := hs
  refine ⟨(afterFetch_length p c _).trans size, fun x hx => ?_⟩
  rcases mem_afterFetch hx with old | ⟨filled, e, he, rfl⟩
  · exact sound x old
  · obtain ⟨-, pending⟩ := State.eventSound_iff.mp (sound e he)
    refine State.eventSound_iff.mpr ⟨filled, fun q hq => pending q ?_⟩
    simp only [PanelSet.has_remove, Bool.and_eq_true] at hq
    exact hq.2

/-- An attachment keeps the law: a pending set of attached links stays one (R144). -/
theorem State.storeSound_setPanel {p : Panel} {d : Delivery} (h : (s.panel p).attached = true → d.attached = true)
    (hs : s.storeSound) : (s.setPanel p d).storeSound := by
  obtain ⟨size, sound⟩ := hs
  refine ⟨by rwa [State.setPanel_events], fun e he => ?_⟩
  rw [State.setPanel_events] at he
  obtain ⟨filled, pending⟩ := State.eventSound_iff.mp (sound e he)
  refine State.eventSound_iff.mpr ⟨filled, fun q hq => ?_⟩
  have attached := pending q hq
  rw [State.attachedSet_has] at attached ⊢
  rw [State.panel_setPanel]
  split
  · next eq => exact h (eq ▸ attached)
  · exact attached

end Sys2Proof.Machine

/-! ## Steps that keep the law of the Event Store (R135) -/

namespace Sys2Proof.Machine

variable {s t u : State}

/-- A step that keeps the law of the Event Store. -/
def State.keepsStore (s t : State) : Prop := s.storeSound → t.storeSound

theorem State.keepsStore_refl (s : State) : s.keepsStore s := id

theorem State.keepsStore.trans (h : s.keepsStore t) (h' : t.keepsStore u) : s.keepsStore u := h' ∘ h

/-- A step that leaves the stored events and the attachments. -/
theorem State.keepsStore_of_log (h : t.log = s.log) : s.keepsStore t := State.storeSound_of_log h

theorem State.keepsStore_create (s : State) (b : EventBody) : s.keepsStore (s.create b) := State.storeSound_create b

theorem State.keepsStore_foldl {α : Type} {f : State → α → State} (h : ∀ (u : State) a, u.keepsStore (f u a))
    (l : List α) (s : State) : s.keepsStore (l.foldl f s) := by
  induction l generalizing s with
  | nil => exact s.keepsStore_refl
  | cons a l ih => exact (h s a).trans (ih (f s a))

theorem State.keepsStore_createAll (s : State) (bs : List EventBody) : s.keepsStore (s.createAll bs) :=
  State.keepsStore_foldl State.keepsStore_create bs s

theorem State.keepsStore_ite {p : Prop} [Decidable p] (ht : p → s.keepsStore t) (hu : ¬p → s.keepsStore u) :
    s.keepsStore (if p then t else u) := by
  split
  · next h => exact ht h
  · next h => exact hu h

/-- A step that does no more to the Event Store than to create events. -/
theorem State.keepsStore_of_created {bs : List EventBody} (h : (s.createAll bs).sameEvents t) : s.keepsStore t := by
  obtain ⟨events, -, a, b⟩ := h
  refine (s.keepsStore_createAll bs).trans (State.keepsStore_of_log ?_)
  rw [State.log, State.attachedSet, events, a, b]
  rfl

/-- A change outside the Event Store, with the event that tells of it. -/
theorem State.keepsStore_create_of_log (h : t.log = s.log) (b : EventBody) : s.keepsStore (t.create b) :=
  (State.keepsStore_of_log h).trans (t.keepsStore_create b)

theorem State.keepsStore_mapDevs (s : State) (f : DevIx → Device → Device) : s.keepsStore (s.mapDevs f) :=
  State.keepsStore_of_log (s.mapDevs_log f)

theorem State.keepsStore_mapMembers (s : State) (z : ZoneIx) (f : Device → Device) :
    s.keepsStore (s.mapMembers z f) := s.keepsStore_mapDevs _

/-! ### The Zone Table (R98 to R108) -/

theorem State.keepsStore_recompute (s : State) (z : ZoneIx) : s.keepsStore (s.recompute z) :=
  State.keepsStore_ite (fun _ => s.keepsStore_refl) fun _ => State.keepsStore_create_of_log (by rfl) _

theorem State.keepsStore_beginLatch (s : State) (i : DevIx) (level elapsed : Nat) :
    s.keepsStore (s.beginLatch i level elapsed) := State.keepsStore_create_of_log (by rfl) _

theorem State.keepsStore_takeLatch (s : State) (i : DevIx) (level elapsed : Nat) :
    s.keepsStore (s.takeLatch i level elapsed) := by
  unfold State.takeLatch
  dsimp only
  split
  · exact (s.keepsStore_create _).trans (State.keepsStore_of_log (by rfl))
  · split
    · exact s.keepsStore_create _
    · exact (s.keepsStore_beginLatch i _ _).trans (State.keepsStore_recompute _ _)

theorem State.keepsStore_handed (s : State) (i : DevIx) (latch : Option (Nat × Nat)) (a b : Cond) :
    s.keepsStore (s.handed i latch a b) := by
  unfold State.handed
  split
  · exact s.keepsStore_takeLatch i _ _
  · exact State.keepsStore_ite (fun _ => s.keepsStore_refl) fun _ =>
      State.keepsStore_ite (fun _ => s.keepsStore_recompute _) fun _ => s.keepsStore_refl

theorem State.keepsStore_acceptFrame (s : State) (i : DevIx) (f : Sample) (arrival : Fin 8192) :
    s.keepsStore (s.acceptFrame i f arrival) := by
  have written : ∀ (v : State) d bs, v.keepsStore ((v.setDev i d).createAll bs) := fun v d bs =>
    (State.keepsStore_of_log (by rfl)).trans (State.keepsStore_createAll _ bs)
  have taken := written s (frameTaken (s.setting i) (s.dev i) f arrival).d
    (frameTaken (s.setting i) (s.dev i) f arrival).events
  refine State.keepsStore_ite (fun _ => taken) fun _ => taken.trans ?_
  rw [State.evaluate_eq]
  exact (written _ _ _).trans (State.keepsStore_handed _ i _ _ _)

theorem State.keepsStore_deviceCounted (s : State) (i : DevIx) : s.keepsStore (s.deviceCounted i) :=
  State.keepsStore_ite
    (fun _ => (State.keepsStore_ite (fun _ => s.keepsStore_beginLatch i _ _)
      (fun _ => s.keepsStore_refl)).trans (State.keepsStore_recompute _ _))
    (fun _ => s.keepsStore_refl)

theorem State.keepsStore_membersCounted (s : State) (z : ZoneIx) (ixs : List DevIx) :
    s.keepsStore (s.membersCounted z ixs) :=
  (State.keepsStore_foldl (fun u i => u.keepsStore_beginLatch i _ _) _ s).trans (State.keepsStore_recompute _ _)

theorem State.keepsStore_lapse (s : State) (z : ZoneIx) : s.keepsStore (s.lapse z) := by
  rcases s.lapse_cases z with ⟨-, e⟩ | ⟨i, -, -, e⟩
  · rw [e]; exact s.keepsStore_recompute z
  · rw [e]; exact (State.keepsStore_create_of_log (by rfl) _).trans (State.keepsStore_recompute _ z)

theorem State.keepsStore_withParams (s : State) (z : ZoneIx) (p : ZoneParams) : s.keepsStore (s.withParams z p) := by
  have limited : s.keepsStore (s.limited z p) := by
    unfold State.limited
    exact .trans ((State.keepsStore_of_log (by rfl)).trans (State.keepsStore_mapDevs _ _))
      (State.keepsStore_createAll _ _)
  have recomputed := limited.trans (State.keepsStore_recompute _ z)
  rw [State.withParams_eq]
  exact State.keepsStore_ite (fun _ => recomputed.trans (State.keepsStore_lapse _ z)) fun _ => recomputed

theorem State.keepsStore_removed (s : State) (i : DevIx) : s.keepsStore (s.removed i) := by
  unfold State.removed State.dropRelay
  have dropped : ∀ (v : State) f b, v.keepsStore ((v.mapDevs f).create b) := fun v f b =>
    (v.keepsStore_mapDevs f).trans (State.keepsStore_create _ b)
  exact State.keepsStore_ite (fun _ => (State.keepsStore_of_log (by rfl)).trans (dropped _ _ _))
    fun _ => (State.keepsStore_create_of_log (by rfl) _).trans (State.keepsStore_recompute _ _)

/-! ### Copies and downlinks (R33 to R40) -/

theorem State.keepsStore_handEnrol (s : State) (c : CellIx) (identity : BitVec 24) (kind : Byte) (p : Path) :
    s.keepsStore (s.handEnrol c identity kind p) := by
  unfold State.handEnrol
  dsimp only
  split
  · split
    · split
      · split
        · exact State.keepsStore_of_log (by rfl)
        · exact State.keepsStore_create_of_log (by rfl) _
      · exact State.keepsStore_of_log (by rfl)
    · split
      · exact State.keepsStore_of_log (by rfl)
      · exact State.keepsStore_of_log (by rfl)
  · split
    · exact State.keepsStore_of_log (by rfl)
    · exact State.keepsStore_of_log (by rfl)

theorem State.reportMarks_log (s : State) (c : CellIx) (i : DevIx) (via : SlotKind) :
    (s.reportMarks c i via).log = s.log := by
  have marked : (match s.time.slot with
      | some h => s.setSlot c h .heard
      | none => s).log = s.log := by split <;> rfl
  cases via with
  | home => exact marked
  | shadow => exact marked

theorem State.countOutcome_log (s : State) (c : CellIx) (o : CopyOutcome) : (s.countOutcome c o).log = s.log := by
  cases o <;> rfl

theorem State.keepsStore_handFrame (s : State) (c : CellIx) (i : DevIx) (via : SlotKind) (f : Sample) (x : Copy) :
    s.keepsStore (s.handFrame c i via f x) :=
  State.keepsStore_ite (fun _ => State.keepsStore_of_log (by rfl)) fun _ =>
    (State.keepsStore_of_log (by rfl)).trans (State.keepsStore_acceptFrame _ _ _ _)

theorem State.keepsStore_handCopy (s : State) (c : CellIx) (w : Uplink) (x : Copy) :
    s.keepsStore (s.handCopy c w x) := by
  cases w with
  | enrol identity kind p => exact s.keepsStore_handEnrol _ _ _ _
  | report f =>
    simp only [State.handCopy]
    split
    · next i via _ =>
      have handed := s.keepsStore_handFrame c i via f x
      exact State.keepsStore_ite (fun _ => handed)
        fun _ => handed.trans (State.keepsStore_of_log (State.reportMarks_log _ _ _ _))
    · exact s.keepsStore_refl
  | alarm f =>
    simp only [State.handCopy]
    split
    · exact s.keepsStore_handFrame _ _ _ _ _
    · exact s.keepsStore_refl

theorem State.keepsStore_receiveCopy (s : State) (c : CellIx) (x : Copy) : s.keepsStore (s.receiveCopy c x) := by
  have ticked : s.keepsStore (s.atTick x.taken) := State.keepsStore_of_log (by rfl)
  have examined : ∀ (v : State) w, v.keepsStore (v.examine c w x) := fun v w =>
    (State.keepsStore_ite (fun _ => v.keepsStore_handCopy c w x)
      fun _ => State.keepsStore_of_log (v.countOutcome_log c _)).trans (State.keepsStore_of_log (by rfl))
  simp only [State.receiveCopy]
  split
  · exact ticked
  · split
    · exact State.keepsStore_of_log (by rfl)
    · split
      · exact State.keepsStore_of_log (by rfl)
      · exact State.keepsStore_ite (fun _ => ticked) fun _ => ticked.trans (examined _ _)

theorem State.keepsStore_alignUnsupervised (s : State) (i : DevIx) : s.keepsStore (s.alignUnsupervised i) := by
  rw [State.alignUnsupervised_step]
  exact (State.keepsStore_of_log (by rfl)).trans (State.keepsStore_createAll _ _)

theorem State.keepsStore_granted (s : State) (c : CellIx) (i : DevIx) : s.keepsStore (s.granted c i) := by
  rw [State.granted_eq]
  refine .trans ?_ (State.keepsStore_alignUnsupervised _ i)
  exact (State.keepsStore_create_of_log (State.requestRoster_log (s.setDev i (s.dev i).grantedRecord) [i]) _).trans
    (State.keepsStore_of_log (by rfl))

theorem State.keepsStore_grantDownlink (s : State) (c : CellIx) (q : Claim) : s.keepsStore (s.grantDownlink c q) := by
  unfold State.grantDownlink
  split
  · exact State.keepsStore_of_log (by rfl)
  · next i _ =>
    refine State.keepsStore_ite (fun _ => ?_) fun _ => State.keepsStore_of_log (by rfl)
    exact State.keepsStore_ite (fun _ => (State.keepsStore_of_log (by rfl)).trans (State.keepsStore_granted _ _ _))
      fun _ => State.keepsStore_of_log (by rfl)

theorem State.acknowledge_log (s : State) (c : CellIx) (f : FrameEntry) : (s.acknowledge c f).log = s.log := by
  unfold State.acknowledge
  split
  · rfl
  · rfl

theorem State.keepsStore_assemble (s : State) (c : CellIx) : s.keepsStore (s.assemble c) := by
  have acknowledged : ∀ (u : State) f, u.log = s.log → s.keepsStore (u.acknowledge c f) := fun u f h =>
    State.keepsStore_of_log ((u.acknowledge_log c f).trans h)
  unfold State.assemble
  dsimp only
  split
  · exact State.keepsStore_of_log (by rfl)
  · split
    · split
      · exact (State.keepsStore_of_log (by rfl)).trans (State.keepsStore_grantDownlink _ _ _)
      · exact State.keepsStore_of_log (by rfl)
    · split
      · exact acknowledged _ _ rfl
      · exact State.keepsStore_of_log (by rfl)
    · split
      · exact acknowledged _ _ rfl
      · exact State.keepsStore_of_log (by rfl)
    · exact State.keepsStore_of_log (by rfl)

/-! ### Confirms, boundaries and the store (R4, R19, R28, R43, R168) -/

theorem State.keepsStore_confirm (s : State) (c : CellIx) (x : TxName) : s.keepsStore (s.confirm c x) := by
  unfold State.confirm
  refine State.keepsStore_ite (fun _ => s.keepsStore_refl) fun _ => State.keepsStore_ite (fun _ => ?_)
    fun _ => State.keepsStore_of_log (by rfl)
  exact (State.keepsStore_of_log (by rfl)).trans (State.keepsStore_of_created (State.realigned_cell _ c).events)

theorem State.keepsStore_superframeBoundary (s : State) : s.keepsStore s.superframeBoundary := by
  unfold State.superframeBoundary
  rw [State.requestBeacons_eq]
  exact (State.keepsStore_of_created s.superframeEnded_allCells.events).trans (State.keepsStore_of_log (by rfl))

theorem State.keepsStore_endInterval (s : State) : s.keepsStore s.endInterval := by
  have closed : s.keepsStore s.slotsEnded := by
    unfold State.slotsEnded
    split
    · next slot _ => exact State.keepsStore_of_created (s.slotsClosed_allCells slot).events
    · exact s.keepsStore_refl
  rw [State.endInterval_eq]
  exact closed.trans (State.keepsStore_of_log (by rfl))

theorem State.keepsStore_transfer (s : State) (i j : DevIx) : s.keepsStore (s.transfer i j) := by
  rw [State.transfer_eq]
  exact (State.keepsStore_create_of_log (State.requestRoster_log (s.relocated i j) [i, j]) _).trans
    (State.keepsStore_alignUnsupervised _ j)

theorem State.keepsStore_cycleBoundary (s : State) : s.keepsStore s.cycleBoundary := by
  have transferred : ∀ (u : State) i, u.keepsStore (u.transferAnnounced i) := fun u i => by
    unfold State.transferAnnounced
    split
    · exact u.keepsStore_transfer _ _
    · exact u.keepsStore_refl
  have readied : ∀ u : State, u.keepsStore (allCells.foldl State.prepareSlots u.retryOutstanding) := fun u => by
    obtain ⟨st, retried, -⟩ := u.retryOutstanding_spec
    obtain ⟨cs, prepared, -⟩ := State.prepareSlots_foldl allCells u.retryOutstanding
    rw [prepared, retried]
    exact State.keepsStore_of_log (by rfl)
  exact (State.keepsStore_foldl transferred allDevs s).trans (readied _)

theorem State.endWrite_log (s : State) (v : Bool) : (s.endWrite v).log = s.log := by
  obtain ⟨-, -, -, -, -, -, -, a, b⟩ := s.endWrite_keepsLinks v
  rw [State.log, State.attachedSet, State.endWrite_events, a, b]
  rfl

theorem State.markOutstanding_log (s : State) (ixs : List DevIx) (v : Bool) :
    (s.markOutstanding ixs v).log = s.log := by
  unfold State.markOutstanding
  exact s.mapDevs_log _

theorem State.finishCommand_log (s : State) (r : Reply) : (s.finishCommand r).log = s.log := by
  unfold State.finishCommand
  split
  · rfl
  · exact State.answer_log _ _ _ _

theorem State.startWaiting_log (s : State) : s.startWaiting.log = s.log := by
  unfold State.startWaiting
  split
  · rfl
  · rfl

theorem State.rosterWriteEnd_log (s : State) (v : Bool) : (s.rosterWriteEnd v).log = s.log := by
  unfold State.rosterWriteEnd
  split
  · split
    · exact s.endWrite_log true
    · rw [State.markOutstanding_log, State.endWrite_log]
  · rfl

end Sys2Proof.Machine

/-! ## Commands keep the law of the Event Store -/

namespace Sys2Proof.Machine

variable {s t u : State} {h : FrameHead} {ops : List Byte} {r : Reply}

/-- A command whose effect keeps the law, wherever it is carried out, keeps it. -/
theorem State.keepsStore_command {c : Command} {body : State → Except Reply (Reply × State)}
    (hb : ∀ {u t : State} {r}, body u = .ok (r, t) → u.keepsStore t) : s.keepsStore (s.command h c ops body) := by
  have replied : ∀ (v : State) r, v.keepsStore (v.reply h r) := fun v r => State.keepsStore_of_log (v.answer_log _ _ r)
  have taken : s.keepsStore (s.taken h) := State.keepsStore_of_log (s.taken_log h)
  rcases s.command_cases h c ops body with e | e | ⟨r, e⟩ | ⟨-, r, t, hok, e⟩
  · rw [e]; exact s.keepsStore_refl
  · rw [e]; exact State.keepsStore_of_log (s.setPort_log _ _)
  · rw [e]; exact taken.trans (replied _ r)
  · rw [e]; exact (taken.trans (hb hok)).trans (replied _ r)

/-- A command whose effect leaves the stored events and the attachments. -/
theorem State.keepsStore_command_of_log {c : Command} {body : State → Except Reply (Reply × State)}
    (hb : ∀ {u t : State} {r}, body u = .ok (r, t) → t.log = u.log) : s.keepsStore (s.command h c ops body) :=
  State.keepsStore_command fun e => State.keepsStore_of_log (hb e)

/-- A writing command creates no event until its write ends (R152). -/
theorem State.keepsStore_writeCommand {c : Command} {body : State → Except Reply CommandWrite} :
    s.keepsStore (s.writeCommand h c ops body) := by
  refine State.keepsStore_of_log ?_
  rcases s.writeCommand_cases h c ops body with e | e | ⟨r, e⟩ | ⟨-, w, -, e⟩
  · rw [e]
  · rw [e]; exact s.setPort_log _ _
  · rw [e]; exact (State.answer_log _ _ _ r).trans (s.taken_log h)
  · rw [e, State.requestWrite_log, State.setPort_log, State.taken_log]

/-! ### Delivery (R139 to R145) -/

theorem attach_keepsStore (e : attach h s = .ok (r, t)) : s.keepsStore t := by
  unfold attach at e
  split at e
  · cases e
  · split at e
    · cases e
    · cases e; exact State.storeSound_setPanel fun _ => rfl

theorem detach_keepsStore (e : detach h s = .ok (r, t)) : s.keepsStore t := by
  unfold detach at e
  split at e
  · cases e
  · split at e
    · cases e; exact State.storeSound_detachPanel _ _
    · cases e

theorem fetchEvent_keepsStore (e : fetchEvent h s = .ok (r, t)) : s.keepsStore t := by
  unfold fetchEvent at e
  split at e
  · cases e
  · next p _ =>
    dsimp only at e
    split at e
    · cases e
    · split at e
      · split at e
        · cases e
        · cases e; exact State.keepsStore_of_log (State.setPanel_log _ rfl)
      · next c credits _ =>
        split at e
        · cases e
        · cases e
          have spent : s.keepsStore (s.setPanel p { s.panel p with lost := {}, credits := credits }) :=
            State.keepsStore_of_log (State.setPanel_log _ rfl)
          refine spent.trans fun sound => ?_
          have fetched := State.storeSound_afterFetch p c sound
          rwa [State.setPanel_events] at fetched

/-! ### The commands of cells, moves and the clock -/

theorem setTime_log (e : setTime h ops s = .ok (r, t)) : t.log = s.log := by
  unfold setTime at e
  split at e
  · obtain ⟨-, -, e⟩ := bind_eq_ok_iff.mp e
    cases e
    rfl
  · cases e

theorem clearCellStatistics_log (e : clearCellStatistics ops s = .ok (r, t)) : t.log = s.log := by
  unfold clearCellStatistics at e
  split at e
  · simp only [bind_eq_ok_iff] at e
    obtain ⟨c, -, -, -, e⟩ := e
    split at e
    · cases e
    · cases e; rfl
  · cases e

theorem moveDevice_log (e : moveDevice ops s = .ok (r, t)) : t.log = s.log := by
  obtain ⟨i, j, -, -, -, -, rfl⟩ := moveDevice_ok e
  rfl

theorem cancelMove_log (e : cancelMove ops s = .ok (r, t)) : t.log = s.log := by
  have cancelled : ∀ i m, (s.cancelled i m).log = s.log := fun i m => by
    unfold State.cancelled
    split
    · rfl
    · rfl
  unfold cancelMove at e
  split at e
  · simp only [bind_eq_ok_iff] at e
    obtain ⟨i, -, -, -, e⟩ := e
    split at e
    · cases e
    · cases e; exact cancelled _ _
  · cases e

theorem stopCell_log (e : stopCell ops s = .ok (r, t)) : t.log = s.log := by
  unfold stopCell at e
  split at e
  · simp only [bind_eq_ok_iff] at e
    obtain ⟨c, -, -, -, e⟩ := e
    split at e
    · cases e; rfl
    · cases e
    · split at e
      · cases e; rfl
      · cases e
    · cases e; rfl
    · cases e
  · cases e

theorem startCell_log (e : startCell ops s = .ok (r, t)) : t.log = s.log := by
  unfold startCell at e
  split at e
  · simp only [bind_eq_ok_iff] at e
    obtain ⟨c, -, -, -, e⟩ := e
    split at e
    · split at e
      · cases e
      · cases e; rfl
    · cases e; rfl
    · cases e
    · cases e
    · cases e
  · cases e

theorem restart_log (e : restart h s = .ok (r, t)) : t.log = s.log := by
  cases e
  exact s.setPort_log _ _

/-! ### Operator commands (R113 to R129) -/

theorem acknowledgeZone_keepsStore (e : acknowledgeZone h ops s = .ok (r, t)) : s.keepsStore t := by
  unfold acknowledgeZone at e
  split at e
  · simp only [bind_eq_ok_iff] at e
    obtain ⟨z, -, -, -, -, -, -, -, e⟩ := e
    split at e
    · cases e
    · cases e; exact State.keepsStore_create_of_log (by rfl) _
  · cases e

theorem acknowledgeAll_keepsStore (e : acknowledgeAll h ops s = .ok (r, t)) : s.keepsStore t := by
  unfold acknowledgeAll at e
  split at e
  · simp only [bind_eq_ok_iff] at e
    obtain ⟨-, -, -, -, e⟩ := e
    split at e
    · cases e
    · cases e; exact State.keepsStore_foldl (fun _ _ => State.keepsStore_create_of_log (by rfl) _) _ s
  · cases e

theorem State.keepsStore_resetBy (s : State) (l : Link) (z : ZoneIx) : s.keepsStore (s.resetBy l z) :=
  ((s.keepsStore_mapMembers z _).trans (State.keepsStore_create _ _)).trans (State.keepsStore_recompute _ _)

theorem resetZone_keepsStore (e : resetZone h ops s = .ok (r, t)) : s.keepsStore t := by
  unfold resetZone at e
  split at e
  · simp only [bind_eq_ok_iff] at e
    obtain ⟨z, -, -, -, -, -, -, -, -, -, e⟩ := e
    cases e; exact s.keepsStore_resetBy _ _
  · cases e

theorem resetAll_keepsStore (e : resetAll h ops s = .ok (r, t)) : s.keepsStore t := by
  unfold resetAll at e
  split at e
  · simp only [bind_eq_ok_iff] at e
    obtain ⟨-, -, -, -, e⟩ := e
    split at e
    · cases e
    · split at e
      · cases e
      · cases e; exact State.keepsStore_foldl (fun u z => u.keepsStore_resetBy _ z) _ s
  · cases e

theorem disableDevice_keepsStore (e : disableDevice h ops s = .ok (r, t)) : s.keepsStore t := by
  unfold disableDevice at e
  split at e
  · obtain ⟨i, -, e⟩ := bind_eq_ok_iff.mp e
    dsimp only at e
    split at e
    · cases e
    · split at e
      · cases e
        rw [State.firstDisable_eq]
        have disabled : s.keepsStore
            ((s.setDev i ((s.dev i).firstDisabled h.link)).create (.deviceDisabled i h.link)) :=
          State.keepsStore_create_of_log (by rfl) _
        exact State.keepsStore_ite (fun _ => disabled.trans (State.keepsStore_recompute _ _)) fun _ => disabled
      · cases e; exact State.keepsStore_of_log (by rfl)
  · cases e

theorem enableDevice_keepsStore (e : enableDevice h ops s = .ok (r, t)) : s.keepsStore t := by
  unfold enableDevice at e
  split at e
  · obtain ⟨i, -, e⟩ := bind_eq_ok_iff.mp e
    dsimp only at e
    split at e
    · cases e
    · split at e
      · cases e; exact (State.keepsStore_create_of_log (by rfl) _).trans (State.keepsStore_deviceCounted _ _)
      · cases e; exact State.keepsStore_of_log (by rfl)
  · cases e

theorem State.keepsStore_firstDisableZone (s : State) (l : Link) (z : ZoneIx) :
    s.keepsStore (s.firstDisableZone l z) := by
  refine .trans ?_ (State.keepsStore_recompute _ z)
  refine .trans ?_ (State.keepsStore_mapMembers _ z _)
  split
  · exact (State.keepsStore_create_of_log (by rfl) _).trans (State.keepsStore_create _ _)
  · exact State.keepsStore_create_of_log (by rfl) _

theorem disableZone_keepsStore (e : disableZone h ops s = .ok (r, t)) : s.keepsStore t := by
  unfold disableZone at e
  split at e
  · simp only [bind_eq_ok_iff] at e
    obtain ⟨z, -, -, -, e⟩ := e
    split at e
    · cases e
    · split at e
      · cases e; exact s.keepsStore_firstDisableZone _ _
      · cases e; exact State.keepsStore_of_log (by rfl)
  · cases e

theorem enableZone_keepsStore (e : enableZone h ops s = .ok (r, t)) : s.keepsStore t := by
  unfold enableZone at e
  split at e
  · simp only [bind_eq_ok_iff] at e
    obtain ⟨z, -, -, -, e⟩ := e
    split at e
    · cases e
    · split at e
      · cases e; exact (State.keepsStore_create_of_log (by rfl) _).trans (State.keepsStore_membersCounted _ _ _)
      · cases e; exact State.keepsStore_of_log (by rfl)
  · cases e

theorem clearDisablements_keepsStore (e : clearDisablements s = .ok (r, t)) : s.keepsStore t := by
  have rezoned : ∀ (u : State) zs, u.keepsStore { u with zones := zs } := fun _ _ => State.keepsStore_of_log (by rfl)
  have enabled : ∀ f zs, s.keepsStore { s.mapDevs f with zones := zs } := fun f zs =>
    (s.keepsStore_mapDevs f).trans (rezoned _ zs)
  simp only [clearDisablements] at e
  split at e
  · cases e
  · cases e
    exact (((enabled _ _).trans (State.keepsStore_createAll _ _)).trans (State.keepsStore_createAll _ _)).trans
      (State.keepsStore_foldl (fun u z => u.keepsStore_membersCounted z _) _ _)

theorem State.keepsStore_startTestBy (s : State) (l : Link) (z : ZoneIx) (minutes : Nat) :
    s.keepsStore (s.startTestBy l z minutes) :=
  (((State.keepsStore_of_log (by rfl)).trans (State.keepsStore_mapMembers _ z _)).trans
    (State.keepsStore_create _ _)).trans (State.keepsStore_recompute _ _)

theorem startTest_keepsStore (e : startTest h ops s = .ok (r, t)) : s.keepsStore t := by
  unfold startTest at e
  split at e
  · simp only [bind_eq_ok_iff] at e
    obtain ⟨z, -, -, -, -, -, e⟩ := e
    split at e
    · cases e; exact s.keepsStore_startTestBy _ _ _
    · split at e
      · cases e
      · split at e
        · cases e; exact State.keepsStore_of_log (by rfl)
        · cases e
  · cases e

theorem State.keepsStore_endTestOf (s : State) (z : ZoneIx) (l : Link) (c : TestEnd) :
    s.keepsStore (s.endTestOf z l c) :=
  (State.keepsStore_create_of_log (by rfl) _).trans (State.keepsStore_recompute _ _)

theorem endTest_keepsStore (e : endTest h ops s = .ok (r, t)) : s.keepsStore t := by
  unfold endTest at e
  split at e
  · simp only [bind_eq_ok_iff] at e
    obtain ⟨z, -, -, -, e⟩ := e
    split at e
    · cases e
    · split at e
      · cases e
      · cases e; exact s.keepsStore_endTestOf _ _ _
  · cases e

theorem State.keepsStore_endProfile (s : State) (z : ZoneIx) : s.keepsStore (s.endProfile z) :=
  State.keepsStore_create_of_log (by rfl) _

theorem selectProfile_keepsStore (e : selectProfile h ops s = .ok (r, t)) : s.keepsStore t := by
  unfold selectProfile at e
  split at e
  · simp only [bind_eq_ok_iff] at e
    obtain ⟨z, -, -, -, e⟩ := e
    split at e
    · cases e
    · split at e
      · cases e
      · cases e; exact State.keepsStore_create_of_log (by rfl) _
    · cases e; exact State.keepsStore_create_of_log (by rfl) _
  · cases e

end Sys2Proof.Machine

/-! ## Every step keeps the law of the Event Store -/

namespace Sys2Proof.Machine

variable {s t u : State} {h : FrameHead} {ops : List Byte}

/-- A taken frame of any command keeps the law. -/
theorem takeCommand_keepsStore (c : Command) (e : takeCommand c h ops s = .next t) : s.keepsStore t := by
  cases c with
  | readStatus => cases e; exact State.keepsStore_command_of_log fun e => by cases e; rfl
  | readDevice => cases e; exact State.keepsStore_command_of_log fun e => by rw [readDevice_state e]
  | readZone => cases e; exact State.keepsStore_command_of_log fun e => by rw [readZone_state e]
  | readCell => cases e; exact State.keepsStore_command_of_log fun e => by rw [readCell_state e]
  | readRoute => cases e; exact State.keepsStore_command_of_log fun e => by rw [readRoute_state e]
  | readIdentity => cases e; exact State.keepsStore_command_of_log fun e => by cases e; rfl
  | attach => cases e; exact State.keepsStore_command attach_keepsStore
  | detach => cases e; exact State.keepsStore_command detach_keepsStore
  | fetchEvent => cases e; exact State.keepsStore_command fetchEvent_keepsStore
  | acknowledgeZone => cases e; exact State.keepsStore_command acknowledgeZone_keepsStore
  | resetZone => cases e; exact State.keepsStore_command resetZone_keepsStore
  | acknowledgeAll => cases e; exact State.keepsStore_command acknowledgeAll_keepsStore
  | resetAll => cases e; exact State.keepsStore_command resetAll_keepsStore
  | disableDevice => cases e; exact State.keepsStore_command disableDevice_keepsStore
  | enableDevice => cases e; exact State.keepsStore_command enableDevice_keepsStore
  | disableZone => cases e; exact State.keepsStore_command disableZone_keepsStore
  | enableZone => cases e; exact State.keepsStore_command enableZone_keepsStore
  | startTest => cases e; exact State.keepsStore_command startTest_keepsStore
  | endTest => cases e; exact State.keepsStore_command endTest_keepsStore
  | selectProfile => cases e; exact State.keepsStore_command selectProfile_keepsStore
  | setTime => cases e; exact State.keepsStore_command_of_log setTime_log
  | clearCellStatistics => cases e; exact State.keepsStore_command_of_log clearCellStatistics_log
  | moveDevice => cases e; exact State.keepsStore_command_of_log moveDevice_log
  | cancelMove => cases e; exact State.keepsStore_command_of_log cancelMove_log
  | stopCell => cases e; exact State.keepsStore_command_of_log stopCell_log
  | startCell => cases e; exact State.keepsStore_command_of_log startCell_log
  | clearDisablements => cases e; exact State.keepsStore_command clearDisablements_keepsStore
  | restart => cases e; exact State.keepsStore_command_of_log restart_log
  | enrolDevice | removeDevice | pinRoute | unpinRoute | setZoneParameters | setSiteParameters | setCellChannel =>
    cases e; exact State.keepsStore_writeCommand

theorem State.keepsStore_hunt (s : State) (l : Link) : s.keepsStore (s.hunt l) :=
  State.keepsStore_of_log (s.setPort_log l _)

theorem State.keepsStore_whenRunning {f : State → State} (hf : s.keepsStore (f s)) : s.keepsStore (s.whenRunning f) :=
  State.keepsStore_ite (fun _ => hf) fun _ => s.keepsStore_refl

theorem takeFrame_keepsStore {code : Byte} (e : takeFrame h code ops s = .next t) : s.keepsStore t := by
  unfold takeFrame at e
  split at e
  · exact takeCommand_keepsStore _ e
  · cases e
    have answered : ∀ r, ((s.taken h).reply h r).log = s.log := fun r =>
      (State.answer_log _ _ _ r).trans (s.taken_log h)
    refine State.keepsStore_whenRunning (State.keepsStore_of_log ?_)
    rcases s.onFrame_cases h fun s => s.reply h { result := .unknownCommand } with e | ⟨r, e⟩ | ⟨-, -, -, e⟩
    · rw [e]; exact s.setPort_log _ _
    · rw [e]; exact answered r
    · rw [e]; exact answered _

theorem byteReceived_keepsStore {l : Link} {key : Bool} {b : Byte} (e : byteReceived l key b s = .next t) :
    s.keepsStore t := by
  unfold byteReceived at e
  split at e
  · split at e
    · unfold takeBytes at e
      split at e
      · exact takeFrame_keepsStore e
      · cases e; exact s.keepsStore_hunt l
    · cases e; exact s.keepsStore_hunt l
  · cases e; exact State.keepsStore_of_log (s.setPort_log l _)

/-! ### Write ends and start-up -/

/-- The end of a command write whose working change keeps the law (R152, R168). -/
theorem State.keepsStore_writeEnd (s : State) (v : Bool) {apply : CommandWrite → Option (State → State)}
    (h : ∀ {w f}, apply w = some f → ∀ u : State, u.keepsStore (f u)) :
    s.keepsStore (s.whenRunning fun s => s.commandWriteEnd v apply) := by
  refine State.keepsStore_whenRunning ?_
  have ended : ∀ v, s.keepsStore (s.endWrite v) := fun v => State.keepsStore_of_log (s.endWrite_log v)
  have finished : ∀ (u : State) r, u.keepsStore (u.finishCommand r) := fun u r =>
    State.keepsStore_of_log (u.finishCommand_log r)
  rcases s.commandWriteEnd_cases v apply with e | ⟨a, w, f, -, -, hf, e | e⟩
  · rw [e]; exact s.keepsStore_refl
  · rw [e]; exact ((ended true).trans (h hf _)).trans (finished _ _)
  · rw [e]; exact (ended false).trans (finished _ _)

theorem enrolApply_keepsStore {w : CommandWrite} {f : State → State} (hf : enrolApply w = some f) (u : State) :
    u.keepsStore (f u) := by
  unfold enrolApply at hf
  split at hf
  · cases hf; exact State.keepsStore_of_log (by rfl)
  · cases hf

theorem removeApply_keepsStore {w : CommandWrite} {f : State → State} (hf : removeApply w = some f) (u : State) :
    u.keepsStore (f u) := by
  unfold removeApply at hf
  split at hf
  · cases hf
    dsimp only [State.removedWrite]
    split
    · exact u.keepsStore_removed _
    · exact u.keepsStore_refl
  · cases hf

theorem State.routesWrite_log (s : State) (i : DevIx) (identity : BitVec 24) (f : RoutePair → RoutePair) :
    (s.routesWrite i identity f).log = s.log := by
  unfold State.routesWrite
  split
  · rfl
  · dsimp only
    split
    · rfl
    · exact State.markOutstanding_log _ _ _

theorem pinApply_keepsStore {w : CommandWrite} {f : State → State} (hf : pinApply w = some f) (u : State) :
    u.keepsStore (f u) := by
  unfold pinApply at hf
  split at hf
  · cases hf; exact State.keepsStore_of_log (u.routesWrite_log _ _ _)
  · cases hf

theorem unpinApply_keepsStore {w : CommandWrite} {f : State → State} (hf : unpinApply w = some f) (u : State) :
    u.keepsStore (f u) := by
  unfold unpinApply at hf
  split at hf
  · cases hf; exact State.keepsStore_of_log (u.routesWrite_log _ _ _)
  · cases hf

theorem zoneApply_keepsStore {w : CommandWrite} {f : State → State} (hf : zoneApply w = some f) (u : State) :
    u.keepsStore (f u) := by
  unfold zoneApply at hf
  split at hf
  · cases hf; exact u.keepsStore_withParams _ _
  · cases hf

theorem siteApply_keepsStore {w : CommandWrite} {f : State → State} (hf : siteApply w = some f) (u : State) :
    u.keepsStore (f u) := by
  unfold siteApply at hf
  split at hf
  · cases hf; exact .trans (State.keepsStore_of_log (by rfl)) (State.keepsStore_mapDevs _ _)
  · cases hf

theorem channelApply_keepsStore {w : CommandWrite} {f : State → State} (hf : channelApply w = some f) (u : State) :
    u.keepsStore (f u) := by
  unfold channelApply at hf
  split at hf
  · cases hf; exact State.keepsStore_of_log (by rfl)
  · cases hf

/-- Start-up begins with an empty store (R173). -/
theorem State.keepsStore_finishStartUp (s : State) (key : Bool) : s.keepsStore (s.finishStartUp key) := by
  cases hp : s.phase with
  | probing fitted =>
    have empty : (s.finishStartUp key).events = [] := by
      rw [State.finishStartUp, hp]
      dsimp only
      rw [State.prepared_beaconed]
      rfl
    intro _
    rw [State.storeSound, empty]
    exact ⟨Nat.zero_le _, nofun⟩
  | held => rw [State.finishStartUp, hp]; exact s.keepsStore_refl
  | running => rw [State.finishStartUp, hp]; exact s.keepsStore_refl

theorem State.keepsStore_probeAnswered (s : State) (c : CellIx) : s.keepsStore (s.probeAnswered c) := by
  unfold State.probeAnswered
  split
  · exact State.keepsStore_of_log (by rfl)
  · exact s.keepsStore_refl
  · exact s.keepsStore_refl

/-! ### The step -/

/-- Every command and event keeps the law of the Event Store. -/
theorem exec_keepsStore (c : Instr) (e : exec c s = .next t) : s.keepsStore t := by
  cases hf : c.frame with
  | some x => exact takeFrame_keepsStore (exec_of_frame hf ▸ e)
  | none =>
    cases c with
    | enrolDeviceWriteEnd v => cases e; exact s.keepsStore_writeEnd v enrolApply_keepsStore
    | removeDeviceWriteEnd v => cases e; exact s.keepsStore_writeEnd v removeApply_keepsStore
    | pinRouteWriteEnd v => cases e; exact s.keepsStore_writeEnd v pinApply_keepsStore
    | unpinRouteWriteEnd v => cases e; exact s.keepsStore_writeEnd v unpinApply_keepsStore
    | setZoneParametersWriteEnd v => cases e; exact s.keepsStore_writeEnd v zoneApply_keepsStore
    | setSiteParametersWriteEnd v => cases e; exact s.keepsStore_writeEnd v siteApply_keepsStore
    | setCellChannelWriteEnd v => cases e; exact s.keepsStore_writeEnd v channelApply_keepsStore
    | rosterWriteEnd v =>
      cases e; exact State.keepsStore_whenRunning (State.keepsStore_of_log (s.rosterWriteEnd_log v))
    | storeWriteStart => cases e; exact State.keepsStore_whenRunning (State.keepsStore_of_log s.startWaiting_log)
    | frameCrcDiscard l => cases e; exact State.keepsStore_whenRunning (s.keepsStore_hunt l)
    | frameGapTimeout l => cases e; exact State.keepsStore_whenRunning (s.keepsStore_hunt l)
    | responseWhollySent l =>
      cases e; exact State.keepsStore_whenRunning (State.keepsStore_of_log (s.setPort_log l _))
    | linkSilence p =>
      cases e
      exact State.keepsStore_whenRunning (State.keepsStore_ite
        (fun _ => State.storeSound_detachPanel p .silence) fun _ => s.keepsStore_refl)
    | frameByteReceived l key b =>
      change execFrameByteReceived l key b s = .next t at e
      unfold execFrameByteReceived at e
      split at e
      · exact byteReceived_keepsStore e
      · cases e; exact s.keepsStore_refl
    | receivedCopy c x => cases e; exact State.keepsStore_whenRunning (s.keepsStore_receiveCopy c x)
    | downlinkAssembly c => cases e; exact State.keepsStore_whenRunning (s.keepsStore_assemble c)
    | transmitConfirm c x => cases e; exact State.keepsStore_whenRunning (s.keepsStore_confirm c x)
    | intervalEnd => cases e; exact State.keepsStore_whenRunning s.keepsStore_endInterval
    | superframeBoundary =>
      cases e
      have marked : s.keepsStore s.atSuperframe := State.keepsStore_of_log (by rfl)
      exact State.keepsStore_whenRunning (State.keepsStore_ite
        (fun _ => marked.trans s.atSuperframe.keepsStore_superframeBoundary) fun _ => s.keepsStore_refl)
    | cycleBoundary =>
      cases e
      have marked : s.keepsStore s.atBoundary := State.keepsStore_of_log (by rfl)
      exact State.keepsStore_whenRunning (State.keepsStore_ite
        (fun _ => marked.trans s.atBoundary.keepsStore_cycleBoundary) fun _ => s.keepsStore_refl)
    | enrolmentDeadline i =>
      cases e
      obtain ⟨-, -, -, -, -, -, told⟩ := s.timeOut_frame i
      exact State.keepsStore_whenRunning (State.keepsStore_ite
        (fun _ => State.keepsStore_of_created (bs := [.enrolmentTimedOut i]) told) fun _ => s.keepsStore_refl)
    | corroborationLapse z =>
      cases e
      exact State.keepsStore_whenRunning (State.keepsStore_ite
        (fun _ => s.keepsStore_lapse z) fun _ => s.keepsStore_refl)
    | profileExpiry z =>
      cases e
      exact State.keepsStore_whenRunning (State.keepsStore_ite
        (fun _ => s.keepsStore_endProfile z) fun _ => s.keepsStore_refl)
    | testExpiry z =>
      cases e
      refine State.keepsStore_whenRunning ?_
      split
      · exact s.keepsStore_endTestOf _ _ _
      · exact s.keepsStore_refl
    | powerLossOrReset => cases e; exact State.keepsStore_of_log (by rfl)
    | startUp =>
      cases e
      exact State.keepsStore_ite (fun _ => State.keepsStore_of_log (by rfl)) fun _ => s.keepsStore_refl
    | restartStartUp =>
      cases e
      exact State.keepsStore_whenRunning (State.keepsStore_ite
        (fun _ => State.keepsStore_of_log (by rfl)) fun _ => s.keepsStore_refl)
    | probeAnswer c => cases e; exact s.keepsStore_probeAnswered c
    | probeTimeout key => cases e; exact s.keepsStore_finishStartUp key
    | _ => cases hf

/-- Settles O56: the stored events and the attachments change by the creation of an event, a detachment, an
attachment, a fetch and start-up alone, and each of these keeps the law; the other steps leave both. -/
theorem stepKeepsEventStoreLaw : Obligations.StepKeepsEventStoreLaw := by
  intro s t hs e
  refine (?_ : s.keepsStore t) hs
  unfold step at e
  split at e
  · cases e; exact s.keepsStore_refl
  · next c rest _ =>
    have unqueued : s.keepsStore { s with pending := rest } := State.keepsStore_of_log (by rfl)
    exact unqueued.trans (exec_keepsStore c e)

end Sys2Proof.Machine

/-! ## Events created, and the overflow of the store (R132 to R137) -/

namespace Sys2Proof.Machine

variable {s t u : State}

/-- The first of a list in strictly rising order that has a property is the least that has it. -/
theorem find?_eq_some_of_least {α : Type} {f : α → Nat} {p : α → Bool} {l : List α} {a : α}
    (sorted : l.Pairwise fun x y => f x < f y) (ha : a ∈ l) (hp : p a = true)
    (least : ∀ x ∈ l, p x = true → f a ≤ f x) : l.find? p = some a := by
  obtain ⟨below, above, rfl⟩ := List.append_of_mem ha
  refine List.find?_eq_some_iff_append.mpr ⟨hp, below, above, rfl, fun x hx => ?_⟩
  obtain ⟨-, -, lower⟩ := List.pairwise_append.mp sorted
  have lt := lower x hx a List.mem_cons_self
  by_contra h
  exact absurd (least x (List.mem_append_left _ hx) (by simpa using h)) (by omega)

theorem victimClasses_sorted (c : EventClass) : (victimClasses c).Pairwise fun x y => x.code < y.code := by
  cases c <;> decide

/-- The candidate classes of R136: not Fire, and not above the class of the new event. -/
theorem mem_victimClasses {c k : EventClass} : k ∈ victimClasses c ↔ k ≠ .fire ∧ k.code ≤ c.code := by
  cases c <;> cases k <;> decide

/-- The victim is of the lowest class of which a candidate is stored (R136). -/
theorem victimClass_eq_some {events : List Event} {c : EventClass} {v : Event} (hv : v ∈ events)
    (candidate : v.body.cls ≠ .fire ∧ v.body.cls.code ≤ c.code)
    (lowest : ∀ x ∈ events, x.body.cls ≠ .fire ∧ x.body.cls.code ≤ c.code → v.body.cls.code ≤ x.body.cls.code) :
    victimClass events c = some v.body.cls := by
  refine find?_eq_some_of_least (victimClasses_sorted c) (mem_victimClasses.mpr candidate) ?_ fun k hk stored => ?_
  · exact List.any_eq_true.mpr ⟨v, hv, by simp⟩
  · obtain ⟨x, hx, cls⟩ := List.any_eq_true.mp stored
    obtain rfl := of_decide_eq_true cls
    exact lowest x hx (mem_victimClasses.mp hk)

/-- Without a candidate there is no victim (R136). -/
theorem victimClass_eq_none {events : List Event} {c : EventClass}
    (h : ∀ x ∈ events, ¬(x.body.cls ≠ .fire ∧ x.body.cls.code ≤ c.code)) : victimClass events c = none := by
  refine List.find?_eq_none.mpr fun k hk stored => ?_
  obtain ⟨x, hx, cls⟩ := List.any_eq_true.mp stored
  obtain rfl := of_decide_eq_true cls
  exact h x hx (mem_victimClasses.mp hk)

theorem State.attachedSet_isEmpty : s.attachedSet.isEmpty = true ↔
    s.panelA.attached = false ∧ s.panelB.attached = false := by
  simp [State.attachedSet, PanelSet.isEmpty]

/-- An event created while a panel link is attached is stored (R134). -/
theorem State.create_of_attached (b : EventBody) (h : s.panelA.attached = true ∨ s.panelB.attached = true) :
    s.create b = { s with nextSeq := s.nextSeq + 1 }.storeEvent (s.newEvent b) := by
  rw [State.create_eq, if_neg]
  intro empty
  obtain ⟨a, b⟩ := State.attachedSet_isEmpty.mp empty
  rcases h with h | h
  · rw [a] at h; cases h
  · rw [b] at h; cases h

/-- A full store gives the oldest event of the victim's class for the new one (R136). -/
theorem State.storeEvent_displaces {e v : Event} {older newer : List Event} (full : 256 ≤ s.events.length)
    (hv : victimClass s.events e.body.cls = some v.body.cls) (place : s.events = older ++ v :: newer)
    (oldest : ∀ x ∈ older, x.body.cls ≠ v.body.cls) :
    s.storeEvent e = { s.raiseLost v with events := older ++ newer ++ [e] } := by
  have found : s.events.find? (fun x => x.body.cls = v.body.cls) = some v := by
    refine List.find?_eq_some_iff_append.mpr ⟨by simp, older, newer, place, fun x hx => ?_⟩
    simpa using oldest x hx
  have left : s.events.eraseP (fun x => x.body.cls = v.body.cls) = older ++ newer := by
    rw [place, List.eraseP_append_right _ fun x hx => by simpa using oldest x hx, List.eraseP_cons_of_pos (by simp)]
  simp only [State.storeEvent, Nat.not_lt.mpr full, if_false, hv, found, left]

/-- A full store without a candidate loses the new event (R136). -/
theorem State.storeEvent_loses {e : Event} (full : 256 ≤ s.events.length)
    (hv : victimClass s.events e.body.cls = none) : s.storeEvent e = s.raiseLost e := by
  simp only [State.storeEvent, Nat.not_lt.mpr full, if_false, hv]

/-- Settles O10: the branches of a creation, the victim found by its class and its place. -/
theorem eventsCreatedAndOverflow : Obligations.EventsCreatedAndOverflow := by
  refine ⟨fun s b room => ?_, fun s b older newer v full attached => ?_⟩
  · rw [State.create_eq]
    refine if_congr State.attachedSet_isEmpty rfl ?_
    rw [State.storeEvent, if_pos room]
    rfl
  · intro e candidate flags
    have stored := State.create_of_attached b attached
    refine ⟨fun place cand above low => ?_, fun safe => ?_⟩
    · have lowest : ∀ x ∈ s.events, candidate x → v.body.cls.code ≤ x.body.cls.code := fun x hx hc => by
        rw [place] at hx
        rcases List.mem_append.mp hx with hx | hx
        · exact (above x hx hc).le
        · rcases List.mem_cons.mp hx with rfl | hx
          · exact le_rfl
          · exact low x hx hc
      have member : v ∈ s.events := place ▸ List.mem_append_right _ List.mem_cons_self
      have oldest : ∀ x ∈ older, x.body.cls ≠ v.body.cls := fun x hx eq =>
        absurd (above x hx (by rwa [show candidate x = candidate v by simp only [candidate, eq]])) (by rw [eq]; omega)
      rw [stored]
      exact State.storeEvent_displaces (s := { s with nextSeq := s.nextSeq + 1 }) full
        (victimClass_eq_some member cand lowest) place oldest
    · rw [stored]
      exact State.storeEvent_loses (s := { s with nextSeq := s.nextSeq + 1 }) full (victimClass_eq_none safe)

end Sys2Proof.Machine

/-! ## Fetch Event (R139 to R142) -/

namespace Sys2Proof.Machine

variable {s t u : State} {h : FrameHead} {p : Panel} {c : EventClass}

/-! ### What a taken frame leaves of the delivery -/

@[simp] theorem State.taken_events (s : State) (h : FrameHead) : (s.taken h).events = s.events := by
  obtain ⟨l, key, tag, level⟩ := h
  cases l <;> rfl

@[simp] theorem State.taken_attached (s : State) (h : FrameHead) (p : Panel) :
    ((s.taken h).panel p).attached = (s.panel p).attached := by
  obtain ⟨l, key, tag, level⟩ := h
  cases l <;> cases p <;> rfl

@[simp] theorem State.taken_credits (s : State) (h : FrameHead) (p : Panel) :
    ((s.taken h).panel p).credits = (s.panel p).credits := by
  obtain ⟨l, key, tag, level⟩ := h
  cases l <;> cases p <;> rfl

@[simp] theorem State.taken_lost (s : State) (h : FrameHead) (p : Panel) :
    ((s.taken h).panel p).lost = (s.panel p).lost := by
  obtain ⟨l, key, tag, level⟩ := h
  cases l <;> cases p <;> rfl

/-- A command that its own checks answer changes what its frame sets alone (R156, R157). -/
theorem State.command_answered {k : Command} {ops : List Byte} {body : State → Except Reply (Reply × State)}
    (ht : s.takes h k) (hn : ops.length = k.operands) {r : Reply} (hb : body (s.taken h) = .error r) :
    s.command h k ops body = (s.taken h).sends h.link h.tag r := by
  rw [s.command_of_takes ht hn, hb, ← State.reply_of_answers _ ht.answers]

theorem State.setPanel_self (s : State) (p : Panel) : s.setPanel p (s.panel p) = s := by cases p <;> rfl

@[simp] theorem State.taken_pendingClass (s : State) (h : FrameHead) (p : Panel) (c : EventClass) :
    (s.taken h).pendingClass p c = s.pendingClass p c := by simp [State.pendingClass]

@[simp] theorem State.taken_fetchChoice (s : State) (h : FrameHead) (p : Panel) :
    (s.taken h).fetchChoice p = s.fetchChoice p := by
  simp [State.fetchChoice, State.creditChoice]

/-! ### The class chosen (R140, R141) -/

theorem State.pendingClass_iff : s.pendingClass p c = true ↔
    ∃ e ∈ s.events, e.pending.has p = true ∧ e.body.cls = c := by simp [State.pendingClass]

/-- A pending Fire event is chosen, the credits unread (R140). -/
theorem State.fetchChoice_fire (h : s.pendingClass p .fire = true) :
    s.fetchChoice p = some (.fire, (s.panel p).credits) := if_pos h

/-- The credits choose the highest class with credit and an event pending (R141). -/
theorem State.creditChoice_eq_some {x : Credits} (fire : c ≠ .fire) (credit : 0 < x.of c)
    (pending : s.pendingClass p c = true)
    (before : ∀ k, c.code < k.code → s.pendingClass p k = true → x.of k = 0) : s.creditChoice p x = some c := by
  have passed : ∀ k : EventClass, c.code < k.code → (decide (0 < x.of k) && s.pendingClass p k) = false := by
    intro k hk
    cases hp : s.pendingClass p k with
    | false => exact Bool.and_false _
    | true => simp [before k hk hp]
  have chosen : (decide (0 < x.of c) && s.pendingClass p c) = true := by simp [credit, pending]
  cases c with
  | fire => exact absurd rfl fire
  | fault => simp only [State.creditChoice, List.find?_cons, chosen]
  | warning => simp only [State.creditChoice, List.find?_cons, passed .fault (by decide), chosen]
  | status =>
    simp only [State.creditChoice, List.find?_cons, passed .fault (by decide), passed .warning (by decide), chosen]

/-- No class qualifies when every pending one is without credit (R141). -/
theorem State.creditChoice_eq_none {x : Credits} (h : ∀ k, s.pendingClass p k = true → x.of k = 0) :
    s.creditChoice p x = none := by
  refine List.find?_eq_none.mpr fun k _ chosen => ?_
  simp only [Bool.and_eq_true, decide_eq_true_eq] at chosen
  obtain ⟨credit, pending⟩ := chosen
  exact absurd (h k pending) credit.ne'

/-- Without a Fire event pending the credits choose (R141). -/
theorem State.fetchChoice_credit (fire : s.pendingClass p .fire = false)
    (h : s.creditChoice p (s.panel p).credits = some c) :
    s.fetchChoice p = some (c, (s.panel p).credits.spend c) := by
  simp [State.fetchChoice, fire, h]

/-- When no class qualifies the credits reloaded from the event weights choose (R141). -/
theorem State.fetchChoice_reload (fire : s.pendingClass p .fire = false)
    (spent : s.creditChoice p (s.panel p).credits = none) (h : s.creditChoice p s.site.weights = some c) :
    s.fetchChoice p = some (c, s.site.weights.spend c) := by
  simp [State.fetchChoice, fire, spent, h]

/-- With nothing pending no class is chosen (R139). -/
theorem State.fetchChoice_none (h : ∀ e ∈ s.events, e.pending.has p = false) : s.fetchChoice p = none := by
  have silent : ∀ k, s.pendingClass p k = false := fun k => by
    simp only [State.pendingClass, List.any_eq_false, Bool.and_eq_true]
    exact fun e he hp => absurd hp.1 (by simp [h e he])
  have unchosen : ∀ x, s.creditChoice p x = none := fun x =>
    State.creditChoice_eq_none fun k hk => absurd hk (by simp [silent k])
  simp [State.fetchChoice, silent, unchosen]

/-! ### The answer -/

theorem LostFlags.enc8_code (x : LostFlags) : enc8 x.code = [BitVec.ofNat 8 x.code] := by
  obtain ⟨fire, fault, warning, status⟩ := x
  have small : (LostFlags.mk fire fault warning status).code ≤ 255 := by
    cases fire <;> cases fault <;> cases warning <;> cases status <;> decide
  rw [enc8, Nat.min_eq_right small]

theorem LostFlags.isClear_iff {x : LostFlags} : x.isClear = true ↔ x = {} := by
  obtain ⟨fire, fault, warning, status⟩ := x
  simp [LostFlags.isClear, and_assoc]

/-- The state after a fetch has delivered event e and left the link these credits (R142). -/
def State.delivered (s : State) (p : Panel) (x : Credits) (older : List Event) (e : Event)
    (newer : List Event) : State :=
  { s.setPanel p { s.panel p with lost := {}, credits := x } with events := older ++ e.fetched p ++ newer }

/-- A fetch delivers the oldest pending event of the class chosen (R140 to R142). -/
theorem fetchEvent_delivers {x : Credits} {older newer : List Event} {e : Event} (hl : panelOf h.link = some p)
    (attached : (s.panel p).attached = true) (chosen : s.fetchChoice p = some (c, x))
    (place : s.events = older ++ e :: newer) (hp : e.pending.has p = true) (hc : e.body.cls = c)
    (oldest : ∀ y ∈ older, y.pending.has p = true → y.body.cls ≠ c) :
    fetchEvent h s = .ok ({
      result := .done
      value := (s.delivered p x older e newer).pendingFor p
      data := BitVec.ofNat 8 (s.panel p).lost.code :: e.record }, s.delivered p x older e newer) := by
  have found : s.oldestPending p c = some e := by
    refine List.find?_eq_some_iff_append.mpr ⟨by simp [hp, hc], older, newer, place, fun y hy => ?_⟩
    simpa [imp_iff_not_or] using oldest y hy
  have left : afterFetch p c s.events = older ++ e.fetched p ++ newer := place ▸ afterFetch_eq hp hc oldest
  unfold fetchEvent
  rw [hl]
  dsimp only
  rw [if_neg (by simp [attached]), chosen]
  dsimp only
  rw [found]
  dsimp only
  rw [left, LostFlags.enc8_code]
  rfl

/-- A fetch with nothing pending carries the lost flags (R139). -/
theorem fetchEvent_empty (hl : panelOf h.link = some p) (attached : (s.panel p).attached = true)
    (silent : s.fetchChoice p = none) : fetchEvent h s =
      if (s.panel p).lost = {} then .error { result := .noChange, data := [BitVec.ofNat 8 (s.panel p).lost.code] }
      else .ok ({ result := .done, data := [BitVec.ofNat 8 (s.panel p).lost.code] },
        s.setPanel p { s.panel p with lost := {} }) := by
  unfold fetchEvent
  rw [hl]
  dsimp only
  rw [if_neg (by simp [attached]), silent, LostFlags.enc8_code]
  exact if_congr LostFlags.isClear_iff rfl rfl

/-- A fetch from a link that is not attached (R139). -/
theorem fetchEvent_unattached (hl : ∀ p, panelOf h.link = some p → (s.panel p).attached = false) :
    fetchEvent h s = .error { result := .notAttached } := by
  unfold fetchEvent
  split
  · rfl
  · next p hp => simp only [hl p hp]; rfl

/-- A taken Fetch Event that delivers an event. -/
theorem State.takes.fetches {x : Credits} {older newer : List Event} {e : Event} (ht : s.takes h .fetchEvent)
    (hl : panelOf h.link = some p) (attached : (s.panel p).attached = true) (chosen : s.fetchChoice p = some (c, x))
    (place : s.events = older ++ e :: newer) (hp : e.pending.has p = true) (hc : e.body.cls = c)
    (oldest : ∀ y ∈ older, y.pending.has p = true → y.body.cls ≠ c) :
    exec (.fetchEvent h []) s = .next (((s.taken h).delivered p x older e newer).sends h.link h.tag {
      result := .done
      value := ((s.taken h).delivered p x older e newer).pendingFor p
      data := BitVec.ofNat 8 (s.panel p).lost.code :: e.record }) := by
  have decided := fetchEvent_delivers (s := s.taken h) (x := x) hl (by simpa using attached) (by simpa using chosen)
    (by simpa using place) hp hc oldest
  rw [State.taken_lost] at decided
  exact congrArg _ (State.command_carried ht rfl decided (State.answers_of_port ht.answers
    ((s.taken h).setPanel_port p _ h.link)))

/-- Settles O8: the class of a pending Fire event is chosen without the credits, and none when nothing is pending. -/
theorem fetchDeliversOldestFireFirst : Obligations.FetchDeliversOldestFireFirst := by
  refine ⟨fun s h p older newer e ht hl attached place hc hp oldest => ?_,
    fun s h ht => ⟨fun hS => ?_, fun p hl => ⟨?_, ?_⟩⟩⟩
  · intro u rest v
    have pending : s.pendingClass p .fire = true := State.pendingClass_iff.mpr ⟨e, by simp [place], hp, hc⟩
    have kept : (s.taken h).delivered p (s.panel p).credits older e newer = v := by
      rw [State.delivered, ← s.taken_credits h p]
      rfl
    exact kept ▸ ht.fetches hl attached (State.fetchChoice_fire pending) place hp hc oldest
  · exact State.command_refuses ht rfl (fetchEvent_unattached fun p hp => by rw [hS] at hp; cases hp)
  · intro detached
    refine State.command_refuses ht rfl (fetchEvent_unattached fun q hq => ?_)
    obtain rfl := Option.some.inj (hl.symm.trans hq)
    simpa using detached
  · intro attached silent
    have decided := fetchEvent_empty (s := s.taken h) hl (by simpa using attached)
      (State.fetchChoice_none (by simpa using silent))
    rw [State.taken_lost] at decided
    by_cases clear : (s.panel p).lost = {}
    · have same : ({ (s.taken h).panel p with lost := {} } : Delivery) = (s.taken h).panel p := by
        rw [← clear, ← s.taken_lost h p]
      rw [if_pos clear] at decided ⊢
      rw [same, State.setPanel_self]
      exact congrArg _ (State.command_answered ht rfl decided)
    · rw [if_neg clear] at decided ⊢
      exact congrArg _ (State.command_carried ht rfl decided (State.answers_of_port ht.answers
        ((s.taken h).setPanel_port p _ h.link)))

/-- Settles O9: the class that the credits choose, before and after their reload. -/
theorem fetchChoosesByCredit : Obligations.FetchChoosesByCredit := by
  intro s h p c older newer e ht hl attached noFire place hc hp oldest wFault wWarning wStatus pends before credits
    weights left
  have fire : s.pendingClass p .fire = false := by
    simpa [State.pendingClass] using noFire
  have member : e ∈ s.events := by simp [place]
  have pending : s.pendingClass p c = true := State.pendingClass_iff.mpr ⟨e, member, hp, hc⟩
  have notFire : c ≠ .fire := hc ▸ noFire e member hp
  have pends_iff : ∀ k, s.pendingClass p k = true ↔ pends k := fun k => State.pendingClass_iff
  have delivers : ∀ x, s.fetchChoice p = some (c, x.spend c) → left x := fun x chosen =>
    ht.fetches hl attached chosen place hp hc oldest
  refine ⟨fun credit passed => delivers credits ?_, fun spent first => delivers weights ?_⟩
  · exact State.fetchChoice_credit fire (State.creditChoice_eq_some notFire credit pending
      fun k hk hpk => passed k hk ((pends_iff k).mp hpk))
  · refine State.fetchChoice_reload fire (State.creditChoice_eq_none fun k hk => spent k ((pends_iff k).mp hk)) ?_
    have loaded : 0 < s.site.weights.of c := by
      cases c with
      | fire => exact absurd rfl notFire
      | fault => exact wFault
      | warning => exact wWarning
      | status => exact wStatus
    exact State.creditChoice_eq_some notFire loaded pending fun k hk hpk => absurd ((pends_iff k).mp hpk) (first k hk)

end Sys2Proof.Machine

/-! ## Attachment, detachment and silence (R144 to R147) -/

namespace Sys2Proof.Machine

variable {s t u : State} {h : FrameHead} {p : Panel}

/-- The panel link as an attachment leaves it (R144). -/
def State.attaching (s : State) (p : Panel) : State :=
  s.setPanel p { s.panel p with attached := true, credits := s.site.weights }

theorem attach_eq (hl : panelOf h.link = some p) : attach h s =
    if (s.panel p).attached then .error { result := .noChange, value := s.siteCount.toNat, data := s.statusData }
    else .ok ({ result := .done, value := s.siteCount.toNat, data := (s.attaching p).statusData }, s.attaching p) := by
  have count : (s.attaching p).siteCount = s.siteCount := s.setPanel_siteCount p _
  rw [← count]
  unfold attach
  rw [hl]
  dsimp only
  split
  · rw [count]; rfl
  · rfl

theorem detach_eq (hl : panelOf h.link = some p) : detach h s =
    if (s.panel p).attached then .ok ({ result := .done }, s.detachPanel p .command)
    else .error { result := .noChange } := by
  unfold detach
  rw [hl]
  rfl

/-- Link S is no panel link: its attachment and its detachment are refused (R144, R145). -/
theorem attach_of_S (hS : h.link = .S) : attach h s = .error { result := .wrongState } := by
  rw [attach, hS]; rfl

theorem detach_of_S (hS : h.link = .S) : detach h s = .error { result := .wrongState } := by
  rw [detach, hS]; rfl

/-- A frame sets the last frame time of its panel link (R146). -/
theorem State.taken_lastFrame (hl : panelOf h.link = some p) : ((s.taken h).panel p).lastFrame = s.runClock := by
  obtain ⟨l, key, tag, level⟩ := h
  cases l with
  | A => cases hl; rfl
  | B => cases hl; rfl
  | S => cases hl

theorem State.detachPanel_port (s : State) (p : Panel) (c : DetachCause) (l : Link) :
    (s.detachPanel p c).port l = s.port l := by
  have silenced : (s.silenced p).port l = s.port l := s.setPanel_port p _ l
  rw [State.detachPanel_eq]
  split
  · rw [State.create_port, silenced]
  · exact silenced

theorem State.silenceExpired_iff : s.silenceExpired p = true ↔
    (s.panel p).attached = true ∧ (s.panel p).lastFrame + 80 ≤ s.runClock := by simp [State.silenceExpired]

/-- No stored event waits for a detached panel link, nor does the event of its detachment (R134, R145). -/
theorem State.detachPanel_pending (s : State) (p : Panel) (c : DetachCause) :
    ∀ e ∈ (s.detachPanel p c).events, e.pending.has p = false := by
  have silent : ∀ e ∈ (s.silenced p).events, e.pending.has p = false := fun e he => withoutPanel_has he
  have detached : (s.silenced p).attachedSet.has p = false := by
    rw [State.attachedSet_has, State.silenced_panel, if_pos rfl]
  intro e he
  rw [State.detachPanel_eq] at he
  split at he
  · rw [State.create_eq] at he
    split at he
    · exact silent e he
    · rcases State.mem_storeEvent he with old | rfl
      · exact silent e old
      · exact detached
  · exact silent e he

/-- Settles O7: the branches of Attach, of Detach and of a link's silence, and the one detachment that both take. -/
theorem attachmentDecided : Obligations.AttachmentDecided := by
  refine ⟨fun s h ht => ⟨fun hS => State.command_refuses ht rfl (attach_of_S hS), fun p hl => ?_⟩,
    fun s h ht => ⟨fun hS => State.command_refuses ht rfl (detach_of_S hS), fun p hl => ?_⟩, fun s p hp => ?_,
    fun s p cause => ⟨s.detachPanel_eq p cause, s.detachPanel_pending p cause⟩⟩
  · have decided := attach_eq (s := s.taken h) hl
    rw [State.taken_attached, State.taken_siteCount] at decided
    split
    · next attached =>
      rw [if_pos attached] at decided
      exact congrArg _ (State.command_answered ht rfl decided)
    · next detached =>
      rw [if_neg detached] at decided
      have weights : (s.taken h).attaching p = (s.taken h).setPanel p { (s.taken h).panel p with
          attached := true
          credits := { fault := s.site.wFault, warning := s.site.wWarning, status := s.site.wStatus } } := by
        rw [State.attaching, State.taken_site]
        rfl
      rw [weights] at decided
      exact ⟨State.taken_lastFrame hl, congrArg _ (State.command_carried ht rfl decided
        (State.answers_of_port ht.answers ((s.taken h).setPanel_port p _ h.link)))⟩
  · have decided := detach_eq (s := s.taken h) hl
    rw [State.taken_attached] at decided
    split
    · next attached =>
      rw [if_pos attached] at decided
      exact congrArg _ (State.command_carried ht rfl decided (State.answers_of_port ht.answers
        ((s.taken h).detachPanel_port p .command h.link)))
    · next detached =>
      rw [if_neg detached] at decided
      exact congrArg _ (State.command_answered ht rfl decided)
  · have runs : exec (.linkSilence p) s =
        .next (if s.silenceExpired p then s.detachPanel p .silence else s) := congrArg _ (if_pos hp)
    rw [runs, apply_ite Host.Outcome.next]
    exact if_congr State.silenceExpired_iff rfl rfl

end Sys2Proof.Machine

/-! ## Frames on a busy link (R152, R166) -/

namespace Sys2Proof.Machine

variable {s t u : State} {h : FrameHead} {ops : List Byte}

/-- A frame that a busy link takes is answered BUSY, whatever it would have done (R152). -/
theorem State.onFrame_of_busy {c : Command} (f : State → State) (hs : s.answers h.link)
    (hb : (s.taken h).busyWith h.link = some c) :
    s.onFrame h f = (s.taken h).sends h.link h.tag { result := .busy, value := c.code.toNat } := by
  have hunted : ((s.hunt h.link).port h.link).responses = (s.port h.link).responses := by simp [State.hunt]
  have room : ¬4 ≤ (s.port h.link).responses.length := Nat.not_le.mpr hs
  have busy : ((s.hunt h.link).frameTakenOn h).busyWith h.link = some c := hb
  simp only [State.onFrame, hunted, room, if_false, busy]
  exact State.reply_of_answers (s.taken h) (s.taken_answers hs)

/-- The frame of every command is taken in the one way of R150 to R152 before anything is read of it. -/
theorem takeCommand_eq_onFrame (c : Command) (h : FrameHead) (ops : List Byte) :
    ∃ f : State → State, ∀ s, takeCommand c h ops s = .next (s.whenRunning fun s => s.onFrame h f) := by
  cases c <;> exact ⟨_, fun _ => rfl⟩

theorem takeFrame_eq_onFrame (h : FrameHead) (code : Byte) (ops : List Byte) :
    ∃ f : State → State, ∀ s, takeFrame h code ops s = .next (s.whenRunning fun s => s.onFrame h f) := by
  unfold takeFrame
  split
  · exact takeCommand_eq_onFrame _ h ops
  · exact ⟨_, fun _ => rfl⟩

/-- A frame of any code on a busy link is answered BUSY unchecked (R152). -/
theorem takeFrame_of_busy {c : Command} {code : Byte} (hp : s.phase = .running) (hs : s.answers h.link)
    (hb : (s.taken h).busyWith h.link = some c) : takeFrame h code ops s =
      .next ((s.taken h).sends h.link h.tag { result := .busy, value := c.code.toNat }) := by
  obtain ⟨f, eq⟩ := takeFrame_eq_onFrame h code ops
  rw [eq, State.whenRunning, if_pos hp, State.onFrame_of_busy f hs hb]

/-- What a link is busy with is what it was when the frame arrived (R152, R166). -/
theorem State.taken_busyWith_eq (s : State) (h : FrameHead) :
    (s.taken h).busyWith h.link = s.busyWith h.link := by
  obtain ⟨l, key, tag, level⟩ := h
  cases l <;> rfl

/-- Settles O5: Restart carried out, and the one answer of a busy link. -/
theorem busyFramesAnsweredUnchecked : Obligations.BusyFramesAnsweredUnchecked := by
  refine ⟨fun s h ht => ?_, fun s h code ops hp ha => ⟨fun restarting => ?_, fun c tag idle executing => ?_,
    fun p hl => State.taken_lastFrame hl⟩⟩
  · intro u
    have decided : restart h u = .ok ({ result := .done }, { u.setPort h.link { u.port h.link with
        executing := some (.restart, h.tag) } with restart := .pending }) := rfl
    refine congrArg _ (State.command_carried ht rfl decided ?_)
    have responses : ((u.setPort h.link { u.port h.link with
        executing := some (.restart, h.tag) }).port h.link).responses = (u.port h.link).responses := by simp
    change ((u.setPort h.link _).port h.link).responses.length < 4
    rw [responses]
    exact ht.answers
  · refine takeFrame_of_busy hp ha ?_
    rw [State.taken_busyWith_eq, State.busyWith, if_pos restarting]
  · refine takeFrame_of_busy hp ha ?_
    rw [State.taken_busyWith_eq, State.busyWith, if_neg (not_not.mpr idle), executing]
    rfl

end Sys2Proof.Machine

/-! ## Commands carried out answer DONE (R156, R157) -/

namespace Sys2Proof.Machine

variable {t u : State}

/-- What a command's checks and effect decide in state u answers DONE when the command is carried out, with every held
response left as it was (R151, R157). -/
def State.answersDone (u : State) (x : Except Reply (Reply × State)) : Prop :=
  ∀ r t, x = .ok (r, t) → r.result = .done ∧ ∀ l, (t.port l).responses = (u.port l).responses

theorem State.answersDone_error {r : Reply} : u.answersDone (.error r) := fun _ _ e => nomatch e

theorem State.answersDone_ok {value : Nat} {data : List Byte} (port : ∀ l, t.port l = u.port l) :
    u.answersDone (.ok (doneReply value data, t)) := fun _ _ e => by
  cases e
  exact ⟨rfl, fun l => congrArg Port.responses (port l)⟩

theorem State.answersDone_query {value : Nat} {data : List Byte} : u.answersDone (answerQuery u value data) :=
  State.answersDone_ok fun _ => rfl

theorem State.answersDone_bind {α : Type} {x : Except Reply α} {f : α → Except Reply (Reply × State)}
    (hf : ∀ a, u.answersDone (f a)) : u.answersDone (x >>= f) := fun r t e =>
  let ⟨a, _, e⟩ := bind_eq_ok_iff.mp e
  hf a r t e

theorem State.answersDone_ite {p : Prop} [Decidable p] {x y : Except Reply (Reply × State)} (hx : u.answersDone x)
    (hy : u.answersDone y) : u.answersDone (if p then x else y) := by
  split
  · exact hx
  · exact hy

/-! ### The queries and the delivery commands -/

theorem readDevice_answersDone (ops : List Byte) (u : State) : u.answersDone (readDevice ops u) := by
  unfold readDevice
  split
  · exact State.answersDone_bind fun _ => State.answersDone_query
  · exact State.answersDone_error

theorem readZone_answersDone (ops : List Byte) (u : State) : u.answersDone (readZone ops u) := by
  unfold readZone
  split
  · exact State.answersDone_bind fun _ => State.answersDone_query
  · exact State.answersDone_error

theorem readCell_answersDone (ops : List Byte) (u : State) : u.answersDone (readCell ops u) := by
  unfold readCell
  split
  · exact State.answersDone_bind fun _ => State.answersDone_query
  · exact State.answersDone_error

theorem readRoute_answersDone (ops : List Byte) (u : State) : u.answersDone (readRoute ops u) := by
  unfold readRoute
  split
  · exact State.answersDone_bind fun _ => State.answersDone_query
  · exact State.answersDone_error

theorem attach_answersDone (h : FrameHead) (u : State) : u.answersDone (attach h u) := by
  unfold attach
  split
  · exact State.answersDone_error
  · exact State.answersDone_ite State.answersDone_error (State.answersDone_ok (u.setPanel_port _ _))

theorem detach_answersDone (h : FrameHead) (u : State) : u.answersDone (detach h u) := by
  unfold detach
  split
  · exact State.answersDone_error
  · exact State.answersDone_ite (State.answersDone_ok (u.detachPanel_port _ _)) State.answersDone_error

theorem fetchEvent_answersDone (h : FrameHead) (u : State) : u.answersDone (fetchEvent h u) := by
  unfold fetchEvent
  split
  · exact State.answersDone_error
  · refine State.answersDone_ite State.answersDone_error ?_
    split
    · exact State.answersDone_ite State.answersDone_error (State.answersDone_ok (u.setPanel_port _ _))
    · split
      · exact State.answersDone_error
      · exact State.answersDone_ok (u.setPanel_port _ _)

/-! ### The operator commands -/

theorem acknowledgeZone_answersDone (h : FrameHead) (ops : List Byte) (u : State) :
    u.answersDone (acknowledgeZone h ops u) := by
  unfold acknowledgeZone
  split
  · exact State.answersDone_bind fun _ => State.answersDone_bind fun _ => State.answersDone_bind fun _ =>
      State.answersDone_bind fun _ => State.answersDone_ite State.answersDone_error
        (State.answersDone_ok fun l => u.acknowledgeBy_port _ l _)
  · exact State.answersDone_error

theorem acknowledgeAll_answersDone (h : FrameHead) (ops : List Byte) (u : State) :
    u.answersDone (acknowledgeAll h ops u) := by
  unfold acknowledgeAll
  split
  · exact State.answersDone_bind fun _ => State.answersDone_bind fun _ => State.answersDone_ite State.answersDone_error
      (State.answersDone_ok fun l => State.port_foldl (fun t z => t.acknowledgeBy_port _ l z) _ u)
  · exact State.answersDone_error

theorem resetZone_answersDone (h : FrameHead) (ops : List Byte) (u : State) :
    u.answersDone (resetZone h ops u) := by
  unfold resetZone
  split
  · exact State.answersDone_bind fun _ => State.answersDone_bind fun _ => State.answersDone_bind fun _ =>
      State.answersDone_bind fun _ => State.answersDone_bind fun _ =>
        State.answersDone_ok fun l => u.resetBy_port _ l _
  · exact State.answersDone_error

theorem resetAll_answersDone (h : FrameHead) (ops : List Byte) (u : State) :
    u.answersDone (resetAll h ops u) := by
  unfold resetAll
  split
  · refine State.answersDone_bind fun _ => State.answersDone_bind fun _ =>
      State.answersDone_ite State.answersDone_error ?_
    split
    · exact State.answersDone_error
    · exact State.answersDone_ok fun l => State.port_foldl (fun t z => t.resetBy_port _ l z) _ u
  · exact State.answersDone_error

theorem disableDevice_answersDone (h : FrameHead) (ops : List Byte) (u : State) :
    u.answersDone (disableDevice h ops u) := by
  unfold disableDevice
  split
  · exact State.answersDone_bind fun _ => State.answersDone_ite State.answersDone_error
      (State.answersDone_ite (State.answersDone_ok fun l => u.firstDisable_port _ l _)
        (State.answersDone_ok (u.setDev_port _ _)))
  · exact State.answersDone_error

theorem enableDevice_answersDone (h : FrameHead) (ops : List Byte) (u : State) :
    u.answersDone (enableDevice h ops u) := by
  unfold enableDevice
  split
  · refine State.answersDone_bind fun _ => State.answersDone_ite State.answersDone_error
      (State.answersDone_ite (State.answersDone_ok fun l => ?_) (State.answersDone_ok (u.setDev_port _ _)))
    rw [State.deviceCounted_port, State.create_port]
    exact u.setDev_port _ _ l
  · exact State.answersDone_error

theorem disableZone_answersDone (h : FrameHead) (ops : List Byte) (u : State) :
    u.answersDone (disableZone h ops u) := by
  unfold disableZone
  split
  · exact State.answersDone_bind fun _ => State.answersDone_bind fun _ => State.answersDone_ite State.answersDone_error
      (State.answersDone_ite (State.answersDone_ok fun l => u.firstDisableZone_port _ l _)
        (State.answersDone_ok (u.setZone_port _ _)))
  · exact State.answersDone_error

/-- Members that become counted leave the links (R96). -/
theorem State.membersCounted_port (s : State) (z : ZoneIx) (ixs : List DevIx) (l : Link) :
    (s.membersCounted z ixs).port l = s.port l := (s.recounts_refl.membersCounted z ixs).2.port l

theorem enableZone_answersDone (h : FrameHead) (ops : List Byte) (u : State) :
    u.answersDone (enableZone h ops u) := by
  unfold enableZone
  split
  · refine State.answersDone_bind fun _ => State.answersDone_bind fun _ =>
      State.answersDone_ite State.answersDone_error (State.answersDone_ite (State.answersDone_ok fun l => ?_)
        (State.answersDone_ok (u.setZone_port _ _)))
    rw [State.membersCounted_port, State.create_port]
    exact u.setZone_port _ _ l
  · exact State.answersDone_error

theorem clearDisablements_answersDone (u : State) : u.answersDone (clearDisablements u) := by
  unfold clearDisablements
  refine State.answersDone_ite State.answersDone_error (State.answersDone_ok fun l => ?_)
  rw [State.port_foldl fun v z => v.membersCounted_port z _ l, State.createAll_port, State.createAll_port]
  exact u.undisabled_port l

theorem startTest_answersDone (h : FrameHead) (ops : List Byte) (u : State) :
    u.answersDone (startTest h ops u) := by
  unfold startTest
  split
  · refine State.answersDone_bind fun _ => State.answersDone_bind fun _ => State.answersDone_bind fun _ => ?_
    split
    · exact State.answersDone_ok fun l => u.startTestBy_port _ l _ _
    · exact State.answersDone_ite State.answersDone_error
        (State.answersDone_ite (State.answersDone_ok (u.setZone_port _ _)) State.answersDone_error)
  · exact State.answersDone_error

theorem endTest_answersDone (h : FrameHead) (ops : List Byte) (u : State) : u.answersDone (endTest h ops u) := by
  unfold endTest
  split
  · refine State.answersDone_bind fun _ => State.answersDone_bind fun _ => ?_
    split
    · exact State.answersDone_error
    · exact State.answersDone_ite State.answersDone_error (State.answersDone_ok fun l => u.endTestOf_port _ l _ _)
  · exact State.answersDone_error

theorem selectProfile_answersDone (h : FrameHead) (ops : List Byte) (u : State) :
    u.answersDone (selectProfile h ops u) := by
  have changed : ∀ z r b l, ((u.setZone z r).create b).port l = u.port l := fun z r b l => by
    rw [State.create_port, State.setZone_port]
  unfold selectProfile
  split
  · refine State.answersDone_bind fun z => State.answersDone_bind fun _ => ?_
    split
    · exact State.answersDone_error
    · exact State.answersDone_ite State.answersDone_error (State.answersDone_ok (changed z _ _))
    · exact State.answersDone_ok (changed z _ _)
  · exact State.answersDone_error

theorem setTime_answersDone (h : FrameHead) (ops : List Byte) (u : State) : u.answersDone (setTime h ops u) := by
  unfold setTime
  split
  · exact State.answersDone_bind fun _ => State.answersDone_ok fun l => by cases l <;> rfl
  · exact State.answersDone_error

theorem clearCellStatistics_answersDone (ops : List Byte) (u : State) :
    u.answersDone (clearCellStatistics ops u) := by
  unfold clearCellStatistics
  split
  · exact State.answersDone_bind fun _ => State.answersDone_bind fun _ =>
      State.answersDone_ite State.answersDone_error (State.answersDone_ok (u.setCell_port _ _))
  · exact State.answersDone_error

/-! ### The commissioning and service commands -/

theorem moveDevice_answersDone (ops : List Byte) (u : State) : u.answersDone (moveDevice ops u) := by
  unfold moveDevice
  split
  · exact State.answersDone_bind fun _ => State.answersDone_bind fun _ => State.answersDone_bind fun _ =>
      State.answersDone_bind fun _ => State.answersDone_bind fun _ => State.answersDone_bind fun _ =>
        State.answersDone_bind fun _ => State.answersDone_bind fun _ => State.answersDone_ok (u.setDev_port _ _)
  · exact State.answersDone_error

theorem cancelMove_answersDone (ops : List Byte) (u : State) : u.answersDone (cancelMove ops u) := by
  have cancelled : ∀ i m l, (u.cancelled i m).port l = u.port l := fun i m l => by
    unfold State.cancelled
    split
    · exact u.setDev_port _ _ l
    · exact (State.setCell_port _ _ _ l).trans (u.setDev_port _ _ l)
  unfold cancelMove
  split
  · refine State.answersDone_bind fun i => State.answersDone_bind fun _ => ?_
    split
    · exact State.answersDone_error
    · exact State.answersDone_ok (cancelled i _)
  · exact State.answersDone_error

theorem stopCell_answersDone (ops : List Byte) (u : State) : u.answersDone (stopCell ops u) := by
  unfold stopCell
  split
  · refine State.answersDone_bind fun _ => State.answersDone_bind fun _ => ?_
    dsimp only
    split
    · exact State.answersDone_ok (u.setCell_port _ _)
    · exact State.answersDone_error
    · exact State.answersDone_ite (State.answersDone_ok (u.setCell_port _ _)) State.answersDone_error
    · exact State.answersDone_ok (u.setCell_port _ _)
    · exact State.answersDone_error
  · exact State.answersDone_error

theorem startCell_answersDone (ops : List Byte) (u : State) : u.answersDone (startCell ops u) := by
  unfold startCell
  split
  · refine State.answersDone_bind fun _ => State.answersDone_bind fun _ => ?_
    dsimp only
    split
    · exact State.answersDone_ite State.answersDone_error (State.answersDone_ok (u.setCell_port _ _))
    · exact State.answersDone_ok (u.setCell_port _ _)
    · exact State.answersDone_error
    · exact State.answersDone_error
    · exact State.answersDone_error
  · exact State.answersDone_error

/-- A restart is answered before the link executes it (R166). -/
theorem restart_answersDone (h : FrameHead) (u : State) : u.answersDone (restart h u) := fun r t e => by
  cases e
  refine ⟨rfl, fun l => ?_⟩
  change ((u.setPort h.link { u.port h.link with executing := some (.restart, h.tag) }).port l).responses = _
  rw [State.port_setPort]
  split
  · next same => rw [same]
  · rfl

end Sys2Proof.Machine

/-! ## The frame of a link command and its one answer (R155 to R157) -/

namespace Sys2Proof.Machine

variable {s t : State} {h : FrameHead} {c : Command} {ops : List Byte}

/-- The frame of a command is carried out as a command that answers at once or as one that waits for its write (R152,
R157). -/
theorem takeCommand_cases (c : Command) (h : FrameHead) (ops : List Byte) :
    (∃ body, carriedBy c h ops body ∧ ∀ u : State, u.answersDone (body u)) ∨
      ∃ body, ∀ s, takeCommand c h ops s = .next (s.writeCommand h c ops body) := by
  cases c with
  | readStatus => exact .inl ⟨_, fun _ => rfl, fun _ => State.answersDone_query⟩
  | readDevice => exact .inl ⟨_, fun _ => rfl, readDevice_answersDone ops⟩
  | readZone => exact .inl ⟨_, fun _ => rfl, readZone_answersDone ops⟩
  | readCell => exact .inl ⟨_, fun _ => rfl, readCell_answersDone ops⟩
  | readRoute => exact .inl ⟨_, fun _ => rfl, readRoute_answersDone ops⟩
  | readIdentity => exact .inl ⟨_, fun _ => rfl, fun _ => State.answersDone_query⟩
  | attach => exact .inl ⟨_, fun _ => rfl, attach_answersDone h⟩
  | detach => exact .inl ⟨_, fun _ => rfl, detach_answersDone h⟩
  | fetchEvent => exact .inl ⟨_, fun _ => rfl, fetchEvent_answersDone h⟩
  | acknowledgeZone => exact .inl ⟨_, fun _ => rfl, acknowledgeZone_answersDone h ops⟩
  | resetZone => exact .inl ⟨_, fun _ => rfl, resetZone_answersDone h ops⟩
  | acknowledgeAll => exact .inl ⟨_, fun _ => rfl, acknowledgeAll_answersDone h ops⟩
  | resetAll => exact .inl ⟨_, fun _ => rfl, resetAll_answersDone h ops⟩
  | disableDevice => exact .inl ⟨_, fun _ => rfl, disableDevice_answersDone h ops⟩
  | enableDevice => exact .inl ⟨_, fun _ => rfl, enableDevice_answersDone h ops⟩
  | disableZone => exact .inl ⟨_, fun _ => rfl, disableZone_answersDone h ops⟩
  | enableZone => exact .inl ⟨_, fun _ => rfl, enableZone_answersDone h ops⟩
  | startTest => exact .inl ⟨_, fun _ => rfl, startTest_answersDone h ops⟩
  | endTest => exact .inl ⟨_, fun _ => rfl, endTest_answersDone h ops⟩
  | selectProfile => exact .inl ⟨_, fun _ => rfl, selectProfile_answersDone h ops⟩
  | setTime => exact .inl ⟨_, fun _ => rfl, setTime_answersDone h ops⟩
  | clearCellStatistics => exact .inl ⟨_, fun _ => rfl, clearCellStatistics_answersDone ops⟩
  | enrolDevice => exact .inr ⟨_, fun _ => rfl⟩
  | removeDevice => exact .inr ⟨_, fun _ => rfl⟩
  | moveDevice => exact .inl ⟨_, fun _ => rfl, moveDevice_answersDone ops⟩
  | cancelMove => exact .inl ⟨_, fun _ => rfl, cancelMove_answersDone ops⟩
  | pinRoute => exact .inr ⟨_, fun _ => rfl⟩
  | unpinRoute => exact .inr ⟨_, fun _ => rfl⟩
  | setZoneParameters => exact .inr ⟨_, fun _ => rfl⟩
  | setSiteParameters => exact .inr ⟨_, fun _ => rfl⟩
  | setCellChannel => exact .inr ⟨_, fun _ => rfl⟩
  | stopCell => exact .inl ⟨_, fun _ => rfl, stopCell_answersDone ops⟩
  | startCell => exact .inl ⟨_, fun _ => rfl, startCell_answersDone ops⟩
  | clearDisablements => exact .inl ⟨_, fun _ => rfl, clearDisablements_answersDone⟩
  | restart => exact .inl ⟨_, fun _ => rfl, restart_answersDone h⟩

/-! ### At most one answer (R151, R157) -/

/-- State t holds on the link of frame h the responses of state s, or one more for the frame; one that is not DONE comes
with nothing but what the frame itself sets (R156, R157). -/
def State.answersAtMostOnce (s : State) (h : FrameHead) (t : State) : Prop :=
  ((t.port h.link).responses = (s.port h.link).responses ∨
    ∃ r : Reply, (t.port h.link).responses = (s.port h.link).responses ++ [{ tag := h.tag, reply := r }]) ∧
  ∀ r : Reply, (t.port h.link).responses = (s.port h.link).responses ++ [{ tag := h.tag, reply := r }] →
    r.result ≠ .done → t = (s.taken h).sends h.link h.tag r

theorem State.taken_responses (s : State) (h : FrameHead) (l : Link) :
    ((s.taken h).port l).responses = (s.port l).responses := by
  obtain ⟨m, key, tag, level⟩ := h
  cases m <;> cases l <;> rfl

theorem State.sends_responses (s : State) (l : Link) (tag : Byte) (r : Reply) :
    ((s.sends l tag r).port l).responses = (s.port l).responses ++ [{ tag := tag, reply := r }] := by
  simp [State.sends]

/-- No response has been produced. -/
theorem State.answersAtMostOnce_of_silent (silent : (t.port h.link).responses = (s.port h.link).responses) :
    s.answersAtMostOnce h t :=
  ⟨.inl silent, fun _ e _ => absurd (silent.symm.trans e) (by simp)⟩

/-- A response has been produced in a state whose responses are those of state s: it is DONE, or its state is what the
frame has set. -/
theorem State.answersAtMostOnce_sends {r : Reply} (held : (t.port h.link).responses = (s.port h.link).responses)
    (refused : r.result ≠ .done → t = s.taken h) : s.answersAtMostOnce h (t.sends h.link h.tag r) := by
  have sent := t.sends_responses h.link h.tag r
  rw [held] at sent
  refine ⟨.inr ⟨r, sent⟩, fun r' e other => ?_⟩
  have same : r = r' := by simpa using sent.symm.trans e
  rw [← same, refused (same ▸ other)]

theorem State.answersAtMostOnce_reply (r : Reply) (hs : s.answers h.link) :
    s.answersAtMostOnce h ((s.taken h).reply h r) := by
  rw [State.reply_of_answers _ (s.taken_answers hs)]
  exact State.answersAtMostOnce_sends (s.taken_responses h h.link) fun _ => rfl

theorem State.answersAtMostOnce_hunt : s.answersAtMostOnce h (s.hunt h.link) :=
  State.answersAtMostOnce_of_silent (by simp [State.hunt])

theorem State.command_answersAtMostOnce {body : State → Except Reply (Reply × State)}
    (done : ∀ u : State, u.answersDone (body u)) (hs : s.answers h.link) :
    s.answersAtMostOnce h (s.command h c ops body) := by
  rcases s.command_cases h c ops body with e | e | ⟨r, e⟩ | ⟨-, r, t, carried, e⟩
  · rw [e]; exact State.answersAtMostOnce_of_silent rfl
  · rw [e]; exact State.answersAtMostOnce_hunt
  · rw [e]; exact State.answersAtMostOnce_reply r hs
  · obtain ⟨is_done, responses⟩ := done _ r t carried
    have held := (responses h.link).trans (s.taken_responses h h.link)
    have room : t.answers h.link := by rw [State.answers, held]; exact hs
    rw [e, State.reply_of_answers _ room]
    exact State.answersAtMostOnce_sends held fun not_done => absurd is_done not_done

/-- A writing command that passes its checks is not answered before its write ends (R152). -/
theorem State.writeCommand_answersAtMostOnce {body : State → Except Reply CommandWrite} (hs : s.answers h.link) :
    s.answersAtMostOnce h (s.writeCommand h c ops body) := by
  rcases s.writeCommand_cases h c ops body with e | e | ⟨r, e⟩ | ⟨-, w, -, e⟩
  · rw [e]; exact State.answersAtMostOnce_of_silent rfl
  · rw [e]; exact State.answersAtMostOnce_hunt
  · rw [e]; exact State.answersAtMostOnce_reply r hs
  · obtain ⟨x, stored, -⟩ := ((s.taken h).setPort h.link
      { (s.taken h).port h.link with executing := some (c, h.tag) }).requestCommand_store w
    have port : ∀ v : State, ({ v with store := x } : State).port h.link = v.port h.link := fun v => by
      cases h.link <;> rfl
    rw [e, stored]
    refine State.answersAtMostOnce_of_silent ?_
    rw [port, State.port_setPort_self]
    exact s.taken_responses h h.link

/-- Settles O3: a command that answers at once answers DONE when it is carried out, and a writing command only refuses
before its write ends. -/
theorem anythingButDoneChangesNothing : Obligations.AnythingButDoneChangesNothing := by
  intro c h ops s _ _ _ hs
  rcases takeCommand_cases c h ops with ⟨body, run, done⟩ | ⟨body, run⟩
  · exact ⟨_, run s, State.command_answersAtMostOnce done hs⟩
  · exact ⟨_, run s, State.writeCommand_answersAtMostOnce hs⟩

/-! ### The link checks (R155) -/

/-- The link checks in their order, on the operand count, the grant and the requirement (R155 checks 1, 3 and 4). -/
theorem linkChecks_eq (h : FrameHead) (c : Command) (n : Nat) : linkChecks h c n =
    if n ≠ c.operands then .error { result := .badFrame }
    else if h.link.grant h.key < h.level.toNat then .error { result := .levelNotGranted }
    else if h.level.toNat < c.level h.link then .error { result := .levelTooLow }
    else .ok () := by
  unfold linkChecks
  split
  · next count => rw [check_of_not (decide_eq_false count), error_bind]
  · next count =>
    rw [check_of (decide_eq_true (not_not.mp count)), ok_bind]
    split
    · next grant => rw [check_of_not (decide_eq_false (Nat.not_le.mpr grant)), error_bind]
    · next grant =>
      rw [check_of (decide_eq_true (Nat.not_lt.mp grant)), ok_bind]
      split
      · next level => exact check_of_not (decide_eq_false (Nat.not_le.mpr level)) _ _
      · next level => exact check_of (decide_eq_true (Nat.not_lt.mp level)) _ _

/-- A frame of any command that the link checks refuse on a Ready link is answered with their refusal alone (R155,
R156). -/
theorem takeCommand_refused {r : Reply} (hp : s.phase = .running) (hr : s.restart = .idle)
    (he : (s.port h.link).executing = none) (hs : s.answers h.link) (refused : linkChecks h c ops.length = .error r) :
    takeCommand c h ops s = .next ((s.taken h).sends h.link h.tag r) := by
  have replied := State.reply_of_answers (r := r) _ (s.taken_answers hs)
  rcases takeCommand_cases c h ops with ⟨body, run, -⟩ | ⟨body, run⟩
  · rw [run, State.command, State.whenRunning, if_pos hp, s.onFrame_of_ready _ hr he hs, refused]
    exact congrArg _ replied
  · rw [run, State.writeCommand, State.whenRunning, if_pos hp, s.onFrame_of_ready _ hr he hs, refused]
    exact congrArg _ replied

theorem Command.ofCode_eq_none {b : Byte} (unknown : ∀ c : Command, c.code ≠ b) : Command.ofCode b = none :=
  List.find?_eq_none.mpr fun c _ => by simpa using unknown c

/-- Settles O4: the link checks are one chain for every command, and a frame of an unknown code is taken as any
other. -/
theorem linkChecksInOrder : Obligations.LinkChecksInOrder := by
  refine ⟨fun c h ops s hp hr he hs => ⟨fun count => ?_, fun count grant => ?_, fun count grant level => ?_⟩,
    fun s h code ops hp hr he hs unknown => ?_⟩
  · refine takeCommand_refused hp hr he hs ?_
    rw [linkChecks_eq, if_pos count]
  · refine takeCommand_refused hp hr he hs ?_
    rw [linkChecks_eq, if_neg (not_not.mpr count), if_pos grant]
  · refine takeCommand_refused hp hr he hs ?_
    rw [linkChecks_eq, if_neg (not_not.mpr count), if_neg (Nat.not_lt.mpr grant), if_pos level]
  · change takeFrame h code ops s = _
    rw [takeFrame, Command.ofCode_eq_none unknown]
    change Host.Outcome.next (s.refuseUnknown h) = _
    rw [State.refuseUnknown, State.whenRunning, if_pos hp, s.onFrame_of_ready _ hr he hs,
      State.reply_of_answers _ (s.taken_answers hs)]

end Sys2Proof.Machine

/-! ## Queries (R160 to R165) -/

namespace Sys2Proof.Machine

variable {s : State} {h : FrameHead} {c : Command} {b : Byte}

/-- A query of an indexed record that passes the link checks answers with what it finds there, or refuses an index out
of range (R155 check 5, R160). -/
theorem State.command_query {n : Nat} {body : State → Except Reply (Reply × State)}
    {target : Except Reply (Fin n)} {value : Fin n → Nat} {data : Fin n → List Byte} (ht : s.takes h c)
    (hn : [b].length = c.operands) (within : ∀ i : Fin n, b.toNat = i.val → target = .ok i)
    (beyond : n ≤ b.toNat → target = .error { result := .badTarget, value := b.toNat })
    (run : body (s.taken h) = target >>= fun i => answerQuery (s.taken h) (value i) (data i)) :
    s.command h c [b] body = (s.taken h).sends h.link h.tag
      (if hb : b.toNat < n then { result := .done, value := value ⟨b.toNat, hb⟩, data := data ⟨b.toNat, hb⟩ }
      else { result := .badTarget, value := b.toNat }) := by
  split
  · next hb =>
    rw [within ⟨b.toNat, hb⟩ rfl, ok_bind] at run
    exact State.command_carried ht hn run ht.answers
  · next hb =>
    rw [beyond (Nat.not_lt.mp hb), error_bind] at run
    exact State.command_answered ht hn run

/-- Settles O6: two queries have no target, and the other four find theirs in the roster, the zones or the cells. -/
theorem queriesAnswerWithoutChange : Obligations.QueriesAnswerWithoutChange := by
  intro s h b u
  refine ⟨fun ht => ?_, fun ht => ?_, fun ht => ?_, fun ht => ?_, fun ht => ?_, fun ht => ?_⟩
  · exact congrArg _ (State.command_carried ht rfl (body := readStatus) rfl ht.answers)
  · exact congrArg _ (State.command_carried ht rfl (body := readIdentity) rfl ht.answers)
  · exact congrArg _ (State.command_query (body := readDevice [b]) (target := deviceTarget b) ht rfl
      (fun _ => deviceTarget_of_eq) deviceTarget_of_ge rfl)
  · exact congrArg _ (State.command_query (body := readZone [b]) (target := zoneTarget b) ht rfl
      (fun _ => zoneTarget_of_eq) zoneTarget_of_ge rfl)
  · exact congrArg _ (State.command_query (body := readCell [b]) (target := cellTarget b) ht rfl
      (fun _ => cellTarget_of_eq) cellTarget_of_ge rfl)
  · exact congrArg _ (State.command_query (body := readRoute [b]) (target := deviceTarget b) ht rfl
      (fun _ => deviceTarget_of_eq) deviceTarget_of_ge rfl)

end Sys2Proof.Machine

/-! ## Command writes whose verify fails (R152, R157, R168) -/

namespace Sys2Proof.Machine

variable {s : State}

/-- A failed write end of the command in progress: its change is not made, and Link S answers STORE_WRITE_FAILED (R157,
R168). -/
theorem State.commandWriteEnd_failed {w : CommandWrite} {tag : Byte} {apply : CommandWrite → Option (State → State)}
    (hw : s.writing w tag) (applies : apply w ≠ none) : s.whenRunning (fun s => s.commandWriteEnd false apply) =
      (s.endWrite false).completes tag .storeWriteFailed := by
  obtain ⟨hp, hactive, ⟨c, he⟩, hn⟩ := hw
  obtain ⟨⟨job, image, replaced⟩, hactive, hj⟩ := Option.map_eq_some_iff.mp hactive
  obtain ⟨f, hf⟩ := Option.ne_none_iff_exists'.mp applies
  cases hj
  rw [State.whenRunning, if_pos hp, State.commandWriteEnd, hactive]
  simp only [hf, Bool.false_eq_true, if_false]
  refine State.finishCommand_of_answers (c := c) _ .storeWriteFailed (by rw [State.endWrite_portS, he]) ?_
  change (s.endWrite false).portS.responses.length < 4
  rw [State.endWrite_portS]
  exact hn

/-- Settles O24: each of the seven write ends belongs to the command whose write it is. -/
theorem failedWriteLeavesWorkingState : Obligations.FailedWriteLeavesWorkingState := by
  intro s w tag hw
  cases w <;> exact congrArg _ (State.commandWriteEnd_failed hw (Option.some_ne_none _))

end Sys2Proof.Machine

/-! ## Bytes and the frame receiver (R149 to R151) -/

namespace Sys2Proof.Machine

variable {s : State} {h : FrameHead} {l : Link} {key : Bool} {b : Byte}

/-- The state with the receiver of a link in another state, and nothing else changed (R149). -/
def State.receiving (s : State) (l : Link) (x : Receiver) : State := s.setPort l { s.port l with rx := x }

@[simp] theorem State.receiving_phase (s : State) (l : Link) (x : Receiver) : (s.receiving l x).phase = s.phase :=
  s.setPort_phase l _

@[simp] theorem State.receiving_rx (s : State) (l : Link) (x : Receiver) : ((s.receiving l x).port l).rx = x := by
  simp [State.receiving]

@[simp] theorem State.receiving_receiving (s : State) (l : Link) (x y : Receiver) :
    (s.receiving l x).receiving l y = s.receiving l y := by
  simp [State.receiving]

theorem State.receiving_self (s : State) (l : Link) : s.receiving l (s.port l).rx = s := by cases l <;> rfl

/-- A receiver that has not taken the first CRC byte of a frame moves on with the next byte (R149). -/
theorem exec_frameByteReceived (hp : s.phase = .running)
    (moves : ∀ n got high, (s.port l).rx ≠ .check n got (some high)) :
    exec (.frameByteReceived l key b) s = .next (s.receiving l ((s.port l).rx.take b)) := by
  change (if s.phase = .running then byteReceived l key b s else .next s) = _
  rw [if_pos hp, byteReceived]
  split
  · next n got high rx => exact absurd rx (moves n got high)
  · rfl

/-- The second CRC byte completes a frame: it is taken when its CRC agrees and discarded otherwise (R150). -/
theorem exec_lastByteReceived {n : Nat} {got : List Byte} {high : Byte} (hp : s.phase = .running)
    (rx : (s.port l).rx = .check n got (some high)) : exec (.frameByteReceived l key b) s =
      if high ++ b = frameCrc n got then takeBytes l key got s else .next (s.hunt l) := by
  change (if s.phase = .running then byteReceived l key b s else .next s) = _
  rw [if_pos hp, byteReceived, rx]
  rfl

/-- A frame that comes while its link holds four responses is discarded (R151). -/
theorem State.onFrame_of_full (f : State → State) (full : 4 ≤ (s.port h.link).responses.length) :
    s.onFrame h f = s.hunt h.link := by
  have held : 4 ≤ ((s.hunt h.link).port h.link).responses.length := by simpa [State.hunt] using full
  exact if_pos held

/-- The CRC of the characters "123456789" is the check value of its polynomial and start value (R150). -/
theorem crc16_check_value : crc16 [0x31, 0x32, 0x33, 0x34, 0x35, 0x36, 0x37, 0x38, 0x39] = 0x29B1 := by decide +kernel

/-- Settles O54: the receiver state by state, and what discarded frames and sent responses leave. -/
theorem receiverTakesBytes : Obligations.ReceiverTakesBytes := by
  refine ⟨crc16_check_value, fun s l key b hp => ?_, fun s l hp => ⟨congrArg _ (if_pos hp), congrArg _ (if_pos hp)⟩,
    fun s h code ops hp full => ?_, fun s l r rest hp held => ?_⟩
  · intro out rx
    have moved : ∀ {x}, (s.port l).rx = x → (∀ n got high, x ≠ .check n got (some high)) → rx (x.take b) :=
      fun e moves => e ▸ exec_frameByteReceived hp (e ▸ moves)
    refine ⟨fun e => ?_, fun e => moved e nofun, fun n got e => moved e nofun, fun n got e => moved e nofun,
      fun n got high e bad => ?_⟩
    · have lead : b = 0xC3 ↔ b.toNat = 0xC3 := BitVec.toNat_inj.symm
      have taken := moved e nofun
      rwa [Receiver.take, if_congr lead rfl rfl] at taken
    · change out = .next (s.hunt l)
      exact (exec_lastByteReceived hp e).trans (if_neg bad)
  · obtain ⟨f, taken⟩ := takeFrame_eq_onFrame h code ops
    rw [taken, State.whenRunning, if_pos hp, State.onFrame_of_full f full]
    rfl
  · change Host.Outcome.next (s.whenRunning _) = _
    rw [State.whenRunning, if_pos hp, held]
    rfl

/-! ### A frame byte by byte (R149, R150) -/

/-- What a byte received on a link makes of an outcome. -/
def receiveByte (l : Link) (key : Bool) (o : Host.Outcome State Fault Refusal) (b : Byte) :
    Host.Outcome State Fault Refusal :=
  match o with
  | .next u => exec (.frameByteReceived l key b) u
  | .fault f => .fault f
  | .refused r => .refused r

theorem receiveByte_moves {x : Receiver} (hp : s.phase = .running)
    (moves : ∀ n got high, x ≠ .check n got (some high)) :
    receiveByte l key (.next (s.receiving l x)) b = .next (s.receiving l (x.take b)) := by
  have taken := exec_frameByteReceived (s := s.receiving l x) (l := l) (key := key) (b := b)
    (by rw [State.receiving_phase, hp]) (by rwa [State.receiving_rx])
  rwa [State.receiving_rx, State.receiving_receiving] at taken

/-- The bytes of a body are collected until its length is reached (R149). -/
theorem foldl_receiveByte_body {n : Nat} {bs got : List Byte} (hp : s.phase = .running) (some_left : bs ≠ [])
    (length : got.length + bs.length = n) :
    bs.foldl (receiveByte l key) (.next (s.receiving l (.body n got))) =
      .next (s.receiving l (.check n (got ++ bs) none)) := by
  induction bs generalizing got with
  | nil => exact absurd rfl some_left
  | cons b bs ih =>
    rw [List.foldl_cons, receiveByte_moves (x := .body n got) hp nofun, Receiver.take]
    rw [List.length_cons] at length
    by_cases last : bs = []
    · subst last
      rw [if_neg (by simp at length; omega)]
      rfl
    · have left := List.length_pos_iff.mpr last
      rw [if_pos (by omega), ih last (by simp; omega), List.append_assoc, List.singleton_append]

/-- The two CRC bytes of a frame are its CRC, most significant byte first (R150). -/
theorem crc_bytes (crc : BitVec 16) : crc.extractLsb' 8 8 ++ crc.extractLsb' 0 8 = crc := by
  rw [BitVec.extractLsb'_append_extractLsb'_eq_extractLsb' (by decide)]
  exact BitVec.extractLsb'_eq_self

/-- A frame received from Hunting is taken with its last byte when its two CRC bytes agree (R149, R150). -/
theorem foldl_receiveByte_frame {got : List Byte} {high low : Byte} (hp : s.phase = .running)
    (hunting : (s.port l).rx = .hunting) (least : 3 ≤ got.length) (most : got.length ≤ 60)
    (good : high ++ low = frameCrc got.length got) :
    (0xC3 :: BitVec.ofNat 8 got.length :: (got ++ [high, low])).foldl (receiveByte l key) (.next s) =
      takeBytes l key got (s.receiving l (.check got.length got (some high))) := by
  have start : s = s.receiving l .hunting := by rw [← hunting, State.receiving_self]
  have lead : Receiver.hunting.take 0xC3 = .length := rfl
  have counted : (BitVec.ofNat 8 got.length).toNat = got.length := by
    rw [BitVec.toNat_ofNat]
    omega
  have length : Receiver.length.take (BitVec.ofNat 8 got.length) = .body got.length [] := by
    rw [Receiver.take, counted, if_pos ⟨least, most⟩]
  have body := foldl_receiveByte_body (l := l) (key := key) (got := []) hp (List.ne_nil_of_length_pos (by omega))
    (Nat.zero_add got.length)
  have first_crc : (Receiver.check got.length got none).take high = .check got.length got (some high) := rfl
  have last := exec_lastByteReceived (s := s.receiving l (.check got.length got (some high))) (key := key) (b := low)
    ((State.receiving_phase _ _ _).trans hp) (s.receiving_rx l _)
  rw [if_pos good] at last
  rw [List.foldl_cons, List.foldl_cons, List.foldl_append]
  conv_lhs => rw [start]
  rw [receiveByte_moves (x := .hunting) hp nofun, lead, receiveByte_moves (x := .length) hp nofun, length, body,
    List.nil_append, List.foldl_cons, receiveByte_moves (x := .check got.length got none) hp nofun, first_crc]
  exact last

/-- A frame is taken with the receiver in Hunting, whatever it held (R149). -/
theorem takeFrame_receiving {code : Byte} {ops : List Byte} {x : Receiver} (hp : s.phase = .running) :
    takeFrame h code ops (s.receiving h.link x) = takeFrame h code ops s := by
  obtain ⟨f, taken⟩ := takeFrame_eq_onFrame h code ops
  have hunted : (s.receiving h.link x).hunt h.link = s.hunt h.link := s.receiving_receiving h.link x .hunting
  rw [taken, taken, State.whenRunning, State.whenRunning, State.receiving_phase, if_pos hp, if_pos hp, State.onFrame,
    hunted]
  rfl

/-- Settles O55: the receiver goes through its states byte by byte, and the last byte takes the frame. -/
theorem frameBytesTakeTheFrame : Obligations.FrameBytesTakeTheFrame := by
  intro s h code ops hp hunting fits
  have short : ops.length ≤ 57 := fits
  have least : 3 ≤ (h.tag :: h.level :: code :: ops).length := Nat.le_add_left 3 ops.length
  have most : (h.tag :: h.level :: code :: ops).length ≤ 60 := Nat.add_le_add_right short 3
  have received := (foldl_receiveByte_frame (key := h.key) hp hunting least most (crc_bytes _)).trans
    (takeFrame_receiving (h := h) hp)
  obtain ⟨f, taken⟩ := takeFrame_eq_onFrame h code ops
  exact ⟨_, taken s, received.trans (taken s)⟩

end Sys2Proof.Machine

/-! ## Steps out of their time or place (R166, R170, R172) -/

namespace Sys2Proof.Machine

variable {s : State}

/-- No image is in force after the selection exactly when neither bank holds a valid one (R171). -/
theorem Store.select_eq_none {x : Store} : x.select = none ↔ x.bank0.image = none ∧ x.bank1.image = none := by
  unfold Store.select
  cases x.bank0.image <;> cases x.bank1.image <;> simp

theorem State.exec_restartStartUp (hp : s.phase = .running) :
    exec .restartStartUp s = .next (if s.restart = .due then s.beginStartUp else s) := congrArg _ (if_pos hp)

/-- Settles O40: each step by the phase and the mark that it waits for. -/
theorem stepsNotDueChangeNothing : Obligations.StepsNotDueChangeNothing := by
  refine ⟨fun s none => ?_, fun s hp => ⟨fun taken => ?_, fun taken => ?_⟩,
    fun s c => ⟨fun v probing => ?_, fun idle => ⟨?_, fun key => ?_⟩, fun hp due => ⟨?_, ?_⟩, fun hp not_due => ?_⟩⟩
  · rw [step, none]
  · change Host.Outcome.next (s.whenRunning fun s =>
      if s.time.superframeDue then s.atSuperframe.superframeBoundary else s) = _
    rw [State.whenRunning, if_pos hp, taken]
    rfl
  · change Host.Outcome.next (s.whenRunning fun s =>
      if s.time.cycleDue ∧ s.restart ≠ .due then s.atBoundary.cycleBoundary else s) = _
    rw [State.whenRunning, if_pos hp, if_neg]
    rintro ⟨cycle, restart⟩
    rcases taken with taken | taken
    · exact Bool.false_ne_true (taken.symm.trans cycle)
    · exact restart taken
  · change Host.Outcome.next (s.probeAnswered c) = _
    rw [State.probeAnswered, probing]
  · change Host.Outcome.next (s.probeAnswered c) = _
    unfold State.probeAnswered
    split
    · next v probing => exact absurd probing (idle v)
    · rfl
    · rfl
  · change Host.Outcome.next (s.finishStartUp key) = _
    unfold State.finishStartUp
    split
    · next v probing => exact absurd probing (idle v)
    · rfl
    · rfl
  · exact (State.exec_restartStartUp hp).trans (congrArg _ (if_pos due))
  · refine ⟨s.store.selected, (State.exec_restartStartUp hp).trans (congrArg _ (if_pos due)), rfl, rfl, rfl, rfl,
      Option.isNone_iff_eq_none, Store.select_eq_none⟩
  · exact (State.exec_restartStartUp hp).trans (congrArg _ (if_neg not_due))

end Sys2Proof.Machine

/-! ## Waiting writes (R168, R169) -/

namespace Sys2Proof.Machine

variable {s : State} {j : WriteJob} {js : List WriteJob}

/-- The state whose store has the given requests waiting, and nothing else changed (R169). -/
def State.withWaiting (s : State) (js : List WriteJob) : State := { s with store := { s.store with waiting := js } }

/-- What waits is no part of the image that a request composes (R168). -/
theorem State.withWaiting_composed (s : State) (j : WriteJob) (js : List WriteJob) :
    (s.withWaiting js).composed j = s.composed j := rfl

theorem State.withWaiting_replaces (s : State) (j : WriteJob) (js : List WriteJob) :
    (s.withWaiting js).replaces j = s.replaces j := rfl

theorem State.startWaiting_of_nil (waiting : s.store.waiting = []) : s.startWaiting = s := by
  unfold State.startWaiting
  split
  · next first => rw [waiting] at first; exact nomatch first
  · rfl

/-- The request that was made first leaves the queue and starts (R169). -/
theorem State.startWaiting_of_cons (free : s.store.active = none) (waiting : s.store.waiting = j :: js) :
    s.startWaiting = (s.withWaiting js).startWrite j := by
  simp only [State.startWaiting, free, waiting, State.withWaiting]

theorem State.exec_storeWriteStart (hp : s.phase = .running) : exec .storeWriteStart s = .next s.startWaiting :=
  congrArg _ (if_pos hp)

/-- Every write takes its number from the image it starts from (R168). -/
theorem State.composed_number (s : State) (j : WriteJob) : (s.composed j).number = s.baseImage.number := by
  cases j with
  | command w => exact s.commandImage_number w
  | roster ixs => simp only [State.composed, State.rosterImage]

/-- The entry of an index in the image of a roster write (R168). -/
theorem State.rosterImage_roster (s : State) (ixs : List DevIx) (i : DevIx) :
    (s.rosterImage ixs).roster[i] = if i ∈ ixs then (s.dev i).configured else s.baseImage.roster[i] :=
  (vector_getElem_ofFn _ i).trans (by rw [Device.stored_eq])

theorem State.rosterImage_sections (s : State) (ixs : List DevIx) :
    (s.rosterImage ixs).zones = s.baseImage.zones ∧ (s.rosterImage ixs).channels = s.baseImage.channels ∧
      (s.rosterImage ixs).site = s.baseImage.site := by
  simp only [State.rosterImage, and_self]

/-- With an image in force, a roster write replaces the stored entries of its set (R168). -/
theorem State.roster_replaces {im : Image} (ixs : List DevIx) (inForce : s.store.inForce = some im) :
    s.replaces (.roster ixs) = ixs :=
  if_neg (by rw [inForce]; exact Bool.false_ne_true)

/-- Settles O27: the queue's front starts on the store with the rest waiting, and a roster write takes the working
content of its set into the image in force. -/
theorem waitingWriteStartsInOrder : Obligations.WaitingWriteStartsInOrder := by
  refine ⟨fun s hp free => ?_, fun s ixs im hf => ?_⟩
  · rw [State.exec_storeWriteStart hp]
    split
    · next waiting => rw [State.startWaiting_of_nil waiting]
    · next j js waiting =>
      rw [State.startWaiting_of_cons free waiting]
      obtain ⟨current, inForce, rest, -, active⟩ := (s.withWaiting js).startWrite_store j
      rw [State.withWaiting_composed, State.withWaiting_replaces] at active
      refine ⟨((s.withWaiting js).startWrite j).store, rfl, rest, current, inForce, active, ?_⟩
      rw [State.composed_number]
      split
      · next im hf => rw [State.baseImage_of_some hf]
      · next hf => rw [State.baseImage_of_none hf]; rfl
  · have base := State.baseImage_of_some hf
    have entry := s.rosterImage_roster ixs
    have number := s.composed_number (.roster ixs)
    obtain ⟨zones, channels, site⟩ := s.rosterImage_sections ixs
    rw [base] at entry number zones channels site
    refine ⟨s.roster_replaces ixs hf, zones, channels, site, number,
      fun i => ⟨fun out => ?_, fun mem vacant => ?_, fun mem enrolled => ?_⟩⟩
    · exact (entry i).trans (if_neg out)
    · exact (entry i).trans ((if_pos mem).trans (if_pos vacant))
    · exact ⟨_, (entry i).trans ((if_pos mem).trans (if_neg enrolled)), rfl, rfl, rfl, rfl, rfl, rfl, rfl⟩

end Sys2Proof.Machine

/-! ## Power loss and the selection of the image in force (R167, R168, R170, R171) -/

namespace Sys2Proof.Machine

variable {s : State} {x : Store} {a b im : Image}

theorem State.exec_startUp (held : s.phase = .held) : exec .startUp s = .next s.beginStartUp :=
  congrArg _ (if_pos held)

/-- With only one bank valid, its image is selected (R171). -/
theorem Store.select_of_only_zero (zero : x.bank0.image = some a) (one : x.bank1.image = none) :
    x.select = some .zero := by simp only [Store.select, zero, one]

theorem Store.select_of_only_one (zero : x.bank0.image = none) (one : x.bank1.image = some b) :
    x.select = some .one := by simp only [Store.select, zero, one]

/-- With both banks valid, the newer image is selected (R171). -/
theorem Store.select_of_both (zero : x.bank0.image = some a) (one : x.bank1.image = some b) :
    x.select = some (if zeroIsNewer a.number b.number then .zero else .one) := by simp only [Store.select, zero, one]

/-- Of two write numbers that differ, the other's plus 1 is the newer, and else the greater (R171). -/
theorem newerBank_eq {m n : BitVec 16} (differ : m ≠ n) :
    (if zeroIsNewer m n then BankNo.zero else .one) =
      if m = n + 1 then .zero else if n = m + 1 then .one else if n < m then .zero else .one := by
  have greater : n ≤ m ↔ n < m := by bv_omega
  rw [zeroIsNewer, if_neg differ]
  by_cases above : m = n + 1
  · rw [if_pos above, if_pos above, if_pos rfl]
  · rw [if_neg above, if_neg above]
    by_cases below : n = m + 1
    · rw [if_pos below, if_pos below, if_neg Bool.false_ne_true]
    · rw [if_neg below, if_neg below]
      exact if_congr (decide_eq_true_iff.trans greater) rfl rfl

/-- Settles O51: holding and start-up are the model's own updates of the store, and the selection goes by the banks
that are valid. -/
theorem heldPartSelectsNewerImage : Obligations.HeldPartSelectsNewerImage := by
  refine ⟨fun s => rfl, fun s => ⟨fun not_held => congrArg _ (if_neg not_held), fun held => ?_⟩⟩
  refine ⟨s.store.selected, State.exec_startUp held, rfl, rfl, rfl, rfl, Option.isNone_iff_eq_none,
    fun zero one => Store.select_eq_none.mpr ⟨zero, one⟩, fun a => Store.select_of_only_zero,
    fun b => Store.select_of_only_one, fun a b zero one differ => ?_⟩
  exact (Store.select_of_both zero one).trans (congrArg some (newerBank_eq differ))

/-- A write that has started leaves no valid image in the bank it goes into (R168, R170). -/
theorem State.startWrite_target_image (s : State) (j : WriteJob) :
    ((s.startWrite j).store.bank (s.startWrite j).store.target).image = none := by
  obtain ⟨current, -, -, spoiled⟩ := s.store.setBank_same s.store.target .spoiled
  have target : (s.startWrite j).store.target = s.store.target := by
    unfold Store.target
    rw [(s.startWrite_store j).1]
  rw [target]
  exact congrArg Bank.image spoiled

/-- With no valid image in the bank that writes go into, start-up selects the image in force again (R171). -/
theorem Store.selected_inForce (inForce : x.inForce = some im) (target : (x.bank x.target).image = none) :
    x.selected.inForce = some im ∧ x.selected.invalid = false := by
  obtain ⟨n, current, image⟩ := Option.bind_eq_some_iff.mp inForce
  have select : x.select = some n := by
    rw [Store.target, current] at target
    cases n with
    | zero => exact Store.select_of_only_zero image target
    | one => exact Store.select_of_only_one target image
  refine ⟨?_, ?_⟩
  · change (x.select.bind fun n => (x.bank n).image) = some im
    rw [select]
    exact image
  · change x.select.isNone = false
    rw [select]
    rfl

/-- Settles O52: the write spoils its own bank alone, so that start-up finds the image in force and no other. -/
theorem interruptedWriteKeepsImage : Obligations.InterruptedWriteKeepsImage := by
  intro s j im _ inForce
  have kept := Store.selected_inForce ((s.startWrite_store j).2.1.trans inForce) (s.startWrite_target_image j)
  exact ⟨(s.startWrite j).hold, (s.startWrite j).hold.beginStartUp, rfl, State.exec_startUp rfl, kept⟩

end Sys2Proof.Machine

/-! ## The front of the queue -/

namespace Sys2Proof.Machine

/-- Settles O1: the queue is not empty, so that the step's second arm answers; it puts the rest of the queue back in
place, and that is s itself. -/
theorem stepRunsFrontCommand : Obligations.StepRunsFrontCommand := by
  intro c s
  change exec c { s with pending := s.pending } = exec c s
  rfl

end Sys2Proof.Machine
